-- ==== Sys2Proof/Word.lean ====
section
/-! DEFINITION. The widths of the engine: bytes and 16-bit words (spec/00_scope.md R6, R8). -/

namespace Sys2Proof

/-- An 8-bit value: a register, a memory byte, an opcode (R6, R8). -/
abbrev Byte := BitVec 8

/-- A 16-bit value: a register pair, SP, PC, an address (R6, R8). -/
abbrev Word := BitVec 16

end Sys2Proof
end

