-- ==== Sys2Proof/Syntax.lean ====
section
/-! DEFINITION. The instructions: one constructor per row of spec/opcode_table.json (spec/30_encoding.md R84, R85, R92).

A name is the row's mnemonic run together: `AtHl`, `AtBc`, `AtDe`, `AtNn`, `AtN`, `AtC` are the memory operands `(HL)`,
`(BC)`, `(DE)`, `(nn)`, `(n)`, `(C)` of R90, and `ldBC` is `LD B,C`. The operands are the immediate bytes, raw: `n` and
`e` are the byte after the opcode (R78, R81), `nn` the 16-bit immediate (R79), `x` the ignored byte of STOP (R263) and `o`
the byte after the prefix (R267). The rows with an operand stand first; the order of constructors has no meaning. -/

namespace Sys2Proof

/-- One instruction, with its immediate operands. -/
inductive Instr where
  /-- LD BC,nn (R127). -/
  | ldBcNn (nn : Word)
  /-- LD B,n (R101). -/
  | ldBN (n : Byte)
  /-- LD (nn),SP (R128). -/
  | ldAtNnSp (nn : Word)
  /-- LD C,n (R101). -/
  | ldCN (n : Byte)
  /-- STOP (R263). -/
  | stop (x : Byte)
  /-- LD DE,nn (R127). -/
  | ldDeNn (nn : Word)
  /-- LD D,n (R101). -/
  | ldDN (n : Byte)
  /-- JR e (R243). -/
  | jrE (e : Byte)
  /-- LD E,n (R101). -/
  | ldEN (n : Byte)
  /-- JR NZ,e (R244). -/
  | jrNzE (e : Byte)
  /-- LD HL,nn (R127). -/
  | ldHlNn (nn : Word)
  /-- LD H,n (R101). -/
  | ldHN (n : Byte)
  /-- JR Z,e (R244). -/
  | jrZE (e : Byte)
  /-- LD L,n (R101). -/
  | ldLN (n : Byte)
  /-- JR NC,e (R244). -/
  | jrNcE (e : Byte)
  /-- LD SP,nn (R127). -/
  | ldSpNn (nn : Word)
  /-- LD (HL),n (R104). -/
  | ldAtHlN (n : Byte)
  /-- JR C,e (R244). -/
  | jrCE (e : Byte)
  /-- LD A,n (R101). -/
  | ldAN (n : Byte)
  /-- JP NZ,nn (R241). -/
  | jpNzNn (nn : Word)
  /-- JP nn (R240). -/
  | jpNn (nn : Word)
  /-- CALL NZ,nn (R246). -/
  | callNzNn (nn : Word)
  /-- ADD A,n (R146). -/
  | addAN (n : Byte)
  /-- JP Z,nn (R241). -/
  | jpZNn (nn : Word)
  /-- PREFIX CB (R267). -/
  | prefixCb (o : Byte)
  /-- CALL Z,nn (R246). -/
  | callZNn (nn : Word)
  /-- CALL nn (R245). -/
  | callNn (nn : Word)
  /-- ADC A,n (R149). -/
  | adcAN (n : Byte)
  /-- JP NC,nn (R241). -/
  | jpNcNn (nn : Word)
  /-- CALL NC,nn (R246). -/
  | callNcNn (nn : Word)
  /-- SUB n (R152). -/
  | subN (n : Byte)
  /-- JP C,nn (R241). -/
  | jpCNn (nn : Word)
  /-- CALL C,nn (R246). -/
  | callCNn (nn : Word)
  /-- SBC A,n (R155). -/
  | sbcAN (n : Byte)
  /-- LDH (n),A (R113). -/
  | ldhAtNA (n : Byte)
  /-- AND n (R158). -/
  | andN (n : Byte)
  /-- ADD SP,e (R192). -/
  | addSpE (e : Byte)
  /-- LD (nn),A (R110). -/
  | ldAtNnA (nn : Word)
  /-- XOR n (R161). -/
  | xorN (n : Byte)
  /-- LDH A,(n) (R112). -/
  | ldhAAtN (n : Byte)
  /-- OR n (R164). -/
  | orN (n : Byte)
  /-- LD HL,SP+e (R130). -/
  | ldHlSpE (e : Byte)
  /-- LD A,(nn) (R109). -/
  | ldAAtNn (nn : Word)
  /-- CP n (R167). -/
  | cpN (n : Byte)
  -- the rest of the unprefixed page (R84), in the table's order
  | nop
  | ldAtBcA
  | incBc
  | incB
  | decB
  | rlca
  | addHlBc
  | ldAAtBc
  | decBc
  | incC
  | decC
  | rrca
  | ldAtDeA
  | incDe
  | incD
  | decD
  | rla
  | addHlDe
  | ldAAtDe
  | decDe
  | incE
  | decE
  | rra
  | ldAtHlIncA
  | incHl
  | incH
  | decH
  | daa
  | addHlHl
  | ldAAtHlInc
  | decHl
  | incL
  | decL
  | cpl
  | ldAtHlDecA
  | incSp
  | incAtHl
  | decAtHl
  | scf
  | addHlSp
  | ldAAtHlDec
  | decSp
  | incA
  | decA
  | ccf
  | ldBB
  | ldBC
  | ldBD
  | ldBE
  | ldBH
  | ldBL
  | ldBAtHl
  | ldBA
  | ldCB
  | ldCC
  | ldCD
  | ldCE
  | ldCH
  | ldCL
  | ldCAtHl
  | ldCA
  | ldDB
  | ldDC
  | ldDD
  | ldDE
  | ldDH
  | ldDL
  | ldDAtHl
  | ldDA
  | ldEB
  | ldEC
  | ldED
  | ldEE
  | ldEH
  | ldEL
  | ldEAtHl
  | ldEA
  | ldHB
  | ldHC
  | ldHD
  | ldHE
  | ldHH
  | ldHL
  | ldHAtHl
  | ldHA
  | ldLB
  | ldLC
  | ldLD
  | ldLE
  | ldLH
  | ldLL
  | ldLAtHl
  | ldLA
  | ldAtHlB
  | ldAtHlC
  | ldAtHlD
  | ldAtHlE
  | ldAtHlH
  | ldAtHlL
  | halt
  | ldAtHlA
  | ldAB
  | ldAC
  | ldAD
  | ldAE
  | ldAH
  | ldAL
  | ldAAtHl
  | ldAA
  | addAB
  | addAC
  | addAD
  | addAE
  | addAH
  | addAL
  | addAAtHl
  | addAA
  | adcAB
  | adcAC
  | adcAD
  | adcAE
  | adcAH
  | adcAL
  | adcAAtHl
  | adcAA
  | subB
  | subC
  | subD
  | subE
  | subH
  | subL
  | subAtHl
  | subA
  | sbcAB
  | sbcAC
  | sbcAD
  | sbcAE
  | sbcAH
  | sbcAL
  | sbcAAtHl
  | sbcAA
  | andB
  | andC
  | andD
  | andE
  | andH
  | andL
  | andAtHl
  | andA
  | xorB
  | xorC
  | xorD
  | xorE
  | xorH
  | xorL
  | xorAtHl
  | xorA
  | orB
  | orC
  | orD
  | orE
  | orH
  | orL
  | orAtHl
  | orA
  | cpB
  | cpC
  | cpD
  | cpE
  | cpH
  | cpL
  | cpAtHl
  | cpA
  | retNz
  | popBc
  | pushBc
  | rst00
  | retZ
  | ret
  | rst08
  | retNc
  | popDe
  | illegalD3
  | pushDe
  | rst10
  | retC
  | reti
  | illegalDB
  | illegalDD
  | rst18
  | popHl
  | ldAtCA
  | illegalE3
  | illegalE4
  | pushHl
  | rst20
  | jpHl
  | illegalEB
  | illegalEC
  | illegalED
  | rst28
  | popAf
  | ldAAtC
  | di
  | illegalF4
  | pushAf
  | rst30
  | ldSpHl
  | ei
  | illegalFC
  | illegalFD
  | rst38
  -- the CB page (R85), in the table's order
  | rlcB
  | rlcC
  | rlcD
  | rlcE
  | rlcH
  | rlcL
  | rlcAtHl
  | rlcA
  | rrcB
  | rrcC
  | rrcD
  | rrcE
  | rrcH
  | rrcL
  | rrcAtHl
  | rrcA
  | rlB
  | rlC
  | rlD
  | rlE
  | rlH
  | rlL
  | rlAtHl
  | rlA
  | rrB
  | rrC
  | rrD
  | rrE
  | rrH
  | rrL
  | rrAtHl
  | rrA
  | slaB
  | slaC
  | slaD
  | slaE
  | slaH
  | slaL
  | slaAtHl
  | slaA
  | sraB
  | sraC
  | sraD
  | sraE
  | sraH
  | sraL
  | sraAtHl
  | sraA
  | swapB
  | swapC
  | swapD
  | swapE
  | swapH
  | swapL
  | swapAtHl
  | swapA
  | srlB
  | srlC
  | srlD
  | srlE
  | srlH
  | srlL
  | srlAtHl
  | srlA
  | bit0B
  | bit0C
  | bit0D
  | bit0E
  | bit0H
  | bit0L
  | bit0AtHl
  | bit0A
  | bit1B
  | bit1C
  | bit1D
  | bit1E
  | bit1H
  | bit1L
  | bit1AtHl
  | bit1A
  | bit2B
  | bit2C
  | bit2D
  | bit2E
  | bit2H
  | bit2L
  | bit2AtHl
  | bit2A
  | bit3B
  | bit3C
  | bit3D
  | bit3E
  | bit3H
  | bit3L
  | bit3AtHl
  | bit3A
  | bit4B
  | bit4C
  | bit4D
  | bit4E
  | bit4H
  | bit4L
  | bit4AtHl
  | bit4A
  | bit5B
  | bit5C
  | bit5D
  | bit5E
  | bit5H
  | bit5L
  | bit5AtHl
  | bit5A
  | bit6B
  | bit6C
  | bit6D
  | bit6E
  | bit6H
  | bit6L
  | bit6AtHl
  | bit6A
  | bit7B
  | bit7C
  | bit7D
  | bit7E
  | bit7H
  | bit7L
  | bit7AtHl
  | bit7A
  | res0B
  | res0C
  | res0D
  | res0E
  | res0H
  | res0L
  | res0AtHl
  | res0A
  | res1B
  | res1C
  | res1D
  | res1E
  | res1H
  | res1L
  | res1AtHl
  | res1A
  | res2B
  | res2C
  | res2D
  | res2E
  | res2H
  | res2L
  | res2AtHl
  | res2A
  | res3B
  | res3C
  | res3D
  | res3E
  | res3H
  | res3L
  | res3AtHl
  | res3A
  | res4B
  | res4C
  | res4D
  | res4E
  | res4H
  | res4L
  | res4AtHl
  | res4A
  | res5B
  | res5C
  | res5D
  | res5E
  | res5H
  | res5L
  | res5AtHl
  | res5A
  | res6B
  | res6C
  | res6D
  | res6E
  | res6H
  | res6L
  | res6AtHl
  | res6A
  | res7B
  | res7C
  | res7D
  | res7E
  | res7H
  | res7L
  | res7AtHl
  | res7A
  | set0B
  | set0C
  | set0D
  | set0E
  | set0H
  | set0L
  | set0AtHl
  | set0A
  | set1B
  | set1C
  | set1D
  | set1E
  | set1H
  | set1L
  | set1AtHl
  | set1A
  | set2B
  | set2C
  | set2D
  | set2E
  | set2H
  | set2L
  | set2AtHl
  | set2A
  | set3B
  | set3C
  | set3D
  | set3E
  | set3H
  | set3L
  | set3AtHl
  | set3A
  | set4B
  | set4C
  | set4D
  | set4E
  | set4H
  | set4L
  | set4AtHl
  | set4A
  | set5B
  | set5C
  | set5D
  | set5E
  | set5H
  | set5L
  | set5AtHl
  | set5A
  | set6B
  | set6C
  | set6D
  | set6E
  | set6H
  | set6L
  | set6AtHl
  | set6A
  | set7B
  | set7C
  | set7D
  | set7E
  | set7H
  | set7L
  | set7AtHl
  | set7A
  deriving DecidableEq, Repr

end Sys2Proof
end

