-- ==== Sys2Proof/WellFormed.lean ====
section
/-! DEFINITION. Which instructions the decoder can give. -/

namespace Sys2Proof

/-- Every row admits every value of its immediates (spec/30_encoding.md R78, R79, R81, R88: STOP's second byte is any byte).
The one check is on the PREFIX CB row: 0xCB and the byte after it are one instruction, the CB-page row of that byte (R86,
R89, R267), so a bare prefix is not an instruction that a decoder answers with (DESIGN CHOICE, log 4). -/
def Instr.WellFormed : Instr → Bool
  | .prefixCb _ => false
  | _ => true

end Sys2Proof
end

