-- ==== Sys2Proof/Decode.lean ====
section
/-! DEFINITION. The decoder and the encoder, from the opcode maps of spec/30_encoding.md (R75 to R89). -/

namespace Sys2Proof

/-- `hi:lo` as one word: the first-named byte is the high one (spec/00_scope.md R8). -/
def mkWord (hi lo : Byte) : Word := hi ++ lo

/-- Bits 7 to 0 of a word (R8). -/
def loByte (w : Word) : Byte := w.extractLsb' 0 8

/-- Bits 15 to 8 of a word (R8). -/
def hiByte (w : Word) : Byte := w.extractLsb' 8 8

/-- The opcode byte with the fields x, y, z (R76, R83). -/
def opXYZ (x : BitVec 2) (y z : BitVec 3) : Byte := x ++ y ++ z

/-- The opcode byte with the fields x, p, q, z (R76). -/
def opXPQZ (x p : BitVec 2) (q : BitVec 1) (z : BitVec 3) : Byte := x ++ p ++ q ++ z

/-- A cell of an opcode map: what the two bytes after the opcode make of it. -/
abbrev Cell := Byte → Byte → Instr

/-- A cell with no immediate. -/
def plain (i : Instr) : Cell := fun _ _ => i

/-- A cell with one immediate byte (R78, R81). -/
def imm8 (f : Byte → Instr) : Cell := fun n _ => f n

/-- A cell with a 16-bit immediate, low byte first (R79). -/
def imm16 (f : Word → Instr) : Cell := fun lo hi => f (mkWord hi lo)

/-- Row 0x of the unprefixed page (R84). -/
def mapRow0 : List Cell :=
  [
    plain .nop, imm16 .ldBcNn, plain .ldAtBcA, plain .incBc,
    plain .incB, plain .decB, imm8 .ldBN, plain .rlca,
    imm16 .ldAtNnSp, plain .addHlBc, plain .ldAAtBc, plain .decBc,
    plain .incC, plain .decC, imm8 .ldCN, plain .rrca]

/-- Row 1x of the unprefixed page (R84). -/
def mapRow1 : List Cell :=
  [
    imm8 .stop, imm16 .ldDeNn, plain .ldAtDeA, plain .incDe,
    plain .incD, plain .decD, imm8 .ldDN, plain .rla,
    imm8 .jrE, plain .addHlDe, plain .ldAAtDe, plain .decDe,
    plain .incE, plain .decE, imm8 .ldEN, plain .rra]

/-- Row 2x of the unprefixed page (R84). -/
def mapRow2 : List Cell :=
  [
    imm8 .jrNzE, imm16 .ldHlNn, plain .ldAtHlIncA, plain .incHl,
    plain .incH, plain .decH, imm8 .ldHN, plain .daa,
    imm8 .jrZE, plain .addHlHl, plain .ldAAtHlInc, plain .decHl,
    plain .incL, plain .decL, imm8 .ldLN, plain .cpl]

/-- Row 3x of the unprefixed page (R84). -/
def mapRow3 : List Cell :=
  [
    imm8 .jrNcE, imm16 .ldSpNn, plain .ldAtHlDecA, plain .incSp,
    plain .incAtHl, plain .decAtHl, imm8 .ldAtHlN, plain .scf,
    imm8 .jrCE, plain .addHlSp, plain .ldAAtHlDec, plain .decSp,
    plain .incA, plain .decA, imm8 .ldAN, plain .ccf]

/-- Row 4x of the unprefixed page (R84). -/
def mapRow4 : List Cell :=
  [
    plain .ldBB, plain .ldBC, plain .ldBD, plain .ldBE,
    plain .ldBH, plain .ldBL, plain .ldBAtHl, plain .ldBA,
    plain .ldCB, plain .ldCC, plain .ldCD, plain .ldCE,
    plain .ldCH, plain .ldCL, plain .ldCAtHl, plain .ldCA]

/-- Row 5x of the unprefixed page (R84). -/
def mapRow5 : List Cell :=
  [
    plain .ldDB, plain .ldDC, plain .ldDD, plain .ldDE,
    plain .ldDH, plain .ldDL, plain .ldDAtHl, plain .ldDA,
    plain .ldEB, plain .ldEC, plain .ldED, plain .ldEE,
    plain .ldEH, plain .ldEL, plain .ldEAtHl, plain .ldEA]

/-- Row 6x of the unprefixed page (R84). -/
def mapRow6 : List Cell :=
  [
    plain .ldHB, plain .ldHC, plain .ldHD, plain .ldHE,
    plain .ldHH, plain .ldHL, plain .ldHAtHl, plain .ldHA,
    plain .ldLB, plain .ldLC, plain .ldLD, plain .ldLE,
    plain .ldLH, plain .ldLL, plain .ldLAtHl, plain .ldLA]

/-- Row 7x of the unprefixed page (R84). -/
def mapRow7 : List Cell :=
  [
    plain .ldAtHlB, plain .ldAtHlC, plain .ldAtHlD, plain .ldAtHlE,
    plain .ldAtHlH, plain .ldAtHlL, plain .halt, plain .ldAtHlA,
    plain .ldAB, plain .ldAC, plain .ldAD, plain .ldAE,
    plain .ldAH, plain .ldAL, plain .ldAAtHl, plain .ldAA]

/-- Row 8x of the unprefixed page (R84). -/
def mapRow8 : List Cell :=
  [
    plain .addAB, plain .addAC, plain .addAD, plain .addAE,
    plain .addAH, plain .addAL, plain .addAAtHl, plain .addAA,
    plain .adcAB, plain .adcAC, plain .adcAD, plain .adcAE,
    plain .adcAH, plain .adcAL, plain .adcAAtHl, plain .adcAA]

/-- Row 9x of the unprefixed page (R84). -/
def mapRow9 : List Cell :=
  [
    plain .subB, plain .subC, plain .subD, plain .subE,
    plain .subH, plain .subL, plain .subAtHl, plain .subA,
    plain .sbcAB, plain .sbcAC, plain .sbcAD, plain .sbcAE,
    plain .sbcAH, plain .sbcAL, plain .sbcAAtHl, plain .sbcAA]

/-- Row Ax of the unprefixed page (R84). -/
def mapRowA : List Cell :=
  [
    plain .andB, plain .andC, plain .andD, plain .andE,
    plain .andH, plain .andL, plain .andAtHl, plain .andA,
    plain .xorB, plain .xorC, plain .xorD, plain .xorE,
    plain .xorH, plain .xorL, plain .xorAtHl, plain .xorA]

/-- Row Bx of the unprefixed page (R84). -/
def mapRowB : List Cell :=
  [
    plain .orB, plain .orC, plain .orD, plain .orE,
    plain .orH, plain .orL, plain .orAtHl, plain .orA,
    plain .cpB, plain .cpC, plain .cpD, plain .cpE,
    plain .cpH, plain .cpL, plain .cpAtHl, plain .cpA]

/-- Row Cx of the unprefixed page (R84). -/
def mapRowC : List Cell :=
  [
    plain .retNz, plain .popBc, imm16 .jpNzNn, imm16 .jpNn,
    imm16 .callNzNn, plain .pushBc, imm8 .addAN, plain .rst00,
    plain .retZ, plain .ret, imm16 .jpZNn, imm8 .prefixCb,
    imm16 .callZNn, imm16 .callNn, imm8 .adcAN, plain .rst08]

/-- Row Dx of the unprefixed page (R84). -/
def mapRowD : List Cell :=
  [
    plain .retNc, plain .popDe, imm16 .jpNcNn, plain .illegalD3,
    imm16 .callNcNn, plain .pushDe, imm8 .subN, plain .rst10,
    plain .retC, plain .reti, imm16 .jpCNn, plain .illegalDB,
    imm16 .callCNn, plain .illegalDD, imm8 .sbcAN, plain .rst18]

/-- Row Ex of the unprefixed page (R84). -/
def mapRowE : List Cell :=
  [
    imm8 .ldhAtNA, plain .popHl, plain .ldAtCA, plain .illegalE3,
    plain .illegalE4, plain .pushHl, imm8 .andN, plain .rst20,
    imm8 .addSpE, plain .jpHl, imm16 .ldAtNnA, plain .illegalEB,
    plain .illegalEC, plain .illegalED, imm8 .xorN, plain .rst28]

/-- Row Fx of the unprefixed page (R84). -/
def mapRowF : List Cell :=
  [
    imm8 .ldhAAtN, plain .popAf, plain .ldAAtC, plain .di,
    plain .illegalF4, plain .pushAf, imm8 .orN, plain .rst30,
    imm8 .ldHlSpE, plain .ldSpHl, imm16 .ldAAtNn, plain .ei,
    plain .illegalFC, plain .illegalFD, imm8 .cpN, plain .rst38]

/-- Row 0x of the CB page (R85). -/
def cbRow0 : List Instr :=
  [
    .rlcB, .rlcC, .rlcD, .rlcE, .rlcH, .rlcL, .rlcAtHl, .rlcA,
    .rrcB, .rrcC, .rrcD, .rrcE, .rrcH, .rrcL, .rrcAtHl, .rrcA]

/-- Row 1x of the CB page (R85). -/
def cbRow1 : List Instr :=
  [
    .rlB, .rlC, .rlD, .rlE, .rlH, .rlL, .rlAtHl, .rlA,
    .rrB, .rrC, .rrD, .rrE, .rrH, .rrL, .rrAtHl, .rrA]

/-- Row 2x of the CB page (R85). -/
def cbRow2 : List Instr :=
  [
    .slaB, .slaC, .slaD, .slaE, .slaH, .slaL, .slaAtHl, .slaA,
    .sraB, .sraC, .sraD, .sraE, .sraH, .sraL, .sraAtHl, .sraA]

/-- Row 3x of the CB page (R85). -/
def cbRow3 : List Instr :=
  [
    .swapB, .swapC, .swapD, .swapE, .swapH, .swapL, .swapAtHl, .swapA,
    .srlB, .srlC, .srlD, .srlE, .srlH, .srlL, .srlAtHl, .srlA]

/-- Row 4x of the CB page (R85). -/
def cbRow4 : List Instr :=
  [
    .bit0B, .bit0C, .bit0D, .bit0E, .bit0H, .bit0L, .bit0AtHl, .bit0A,
    .bit1B, .bit1C, .bit1D, .bit1E, .bit1H, .bit1L, .bit1AtHl, .bit1A]

/-- Row 5x of the CB page (R85). -/
def cbRow5 : List Instr :=
  [
    .bit2B, .bit2C, .bit2D, .bit2E, .bit2H, .bit2L, .bit2AtHl, .bit2A,
    .bit3B, .bit3C, .bit3D, .bit3E, .bit3H, .bit3L, .bit3AtHl, .bit3A]

/-- Row 6x of the CB page (R85). -/
def cbRow6 : List Instr :=
  [
    .bit4B, .bit4C, .bit4D, .bit4E, .bit4H, .bit4L, .bit4AtHl, .bit4A,
    .bit5B, .bit5C, .bit5D, .bit5E, .bit5H, .bit5L, .bit5AtHl, .bit5A]

/-- Row 7x of the CB page (R85). -/
def cbRow7 : List Instr :=
  [
    .bit6B, .bit6C, .bit6D, .bit6E, .bit6H, .bit6L, .bit6AtHl, .bit6A,
    .bit7B, .bit7C, .bit7D, .bit7E, .bit7H, .bit7L, .bit7AtHl, .bit7A]

/-- Row 8x of the CB page (R85). -/
def cbRow8 : List Instr :=
  [
    .res0B, .res0C, .res0D, .res0E, .res0H, .res0L, .res0AtHl, .res0A,
    .res1B, .res1C, .res1D, .res1E, .res1H, .res1L, .res1AtHl, .res1A]

/-- Row 9x of the CB page (R85). -/
def cbRow9 : List Instr :=
  [
    .res2B, .res2C, .res2D, .res2E, .res2H, .res2L, .res2AtHl, .res2A,
    .res3B, .res3C, .res3D, .res3E, .res3H, .res3L, .res3AtHl, .res3A]

/-- Row Ax of the CB page (R85). -/
def cbRowA : List Instr :=
  [
    .res4B, .res4C, .res4D, .res4E, .res4H, .res4L, .res4AtHl, .res4A,
    .res5B, .res5C, .res5D, .res5E, .res5H, .res5L, .res5AtHl, .res5A]

/-- Row Bx of the CB page (R85). -/
def cbRowB : List Instr :=
  [
    .res6B, .res6C, .res6D, .res6E, .res6H, .res6L, .res6AtHl, .res6A,
    .res7B, .res7C, .res7D, .res7E, .res7H, .res7L, .res7AtHl, .res7A]

/-- Row Cx of the CB page (R85). -/
def cbRowC : List Instr :=
  [
    .set0B, .set0C, .set0D, .set0E, .set0H, .set0L, .set0AtHl, .set0A,
    .set1B, .set1C, .set1D, .set1E, .set1H, .set1L, .set1AtHl, .set1A]

/-- Row Dx of the CB page (R85). -/
def cbRowD : List Instr :=
  [
    .set2B, .set2C, .set2D, .set2E, .set2H, .set2L, .set2AtHl, .set2A,
    .set3B, .set3C, .set3D, .set3E, .set3H, .set3L, .set3AtHl, .set3A]

/-- Row Ex of the CB page (R85). -/
def cbRowE : List Instr :=
  [
    .set4B, .set4C, .set4D, .set4E, .set4H, .set4L, .set4AtHl, .set4A,
    .set5B, .set5C, .set5D, .set5E, .set5H, .set5L, .set5AtHl, .set5A]

/-- Row Fx of the CB page (R85). -/
def cbRowF : List Instr :=
  [
    .set6B, .set6C, .set6D, .set6E, .set6H, .set6L, .set6AtHl, .set6A,
    .set7B, .set7C, .set7D, .set7E, .set7H, .set7L, .set7AtHl, .set7A]

/-- The unprefixed page (R84). The cell of 0xCB stands for the prefix itself and is read only through `decodeBytes`. -/
def opcodeMap : List (List Cell) :=
  [mapRow0, mapRow1, mapRow2, mapRow3, mapRow4, mapRow5, mapRow6, mapRow7,
    mapRow8, mapRow9, mapRowA, mapRowB, mapRowC, mapRowD, mapRowE, mapRowF]

/-- The CB page (R85). -/
def cbMap : List (List Instr) :=
  [cbRow0, cbRow1, cbRow2, cbRow3, cbRow4, cbRow5, cbRow6, cbRow7,
    cbRow8, cbRow9, cbRowA, cbRowB, cbRowC, cbRowD, cbRowE, cbRowF]

/-- The entry of a 16 by 16 map at an opcode: row by the high nibble, column by the low. -/
def mapAt {α : Type} (dflt : α) (m : List (List α)) (op : Byte) : α :=
  (m.getD (op.toNat / 16) []).getD (op.toNat % 16) dflt

/-- The prefix byte (R89). -/
def cbPrefix : Byte := 0xCB

/-- The eleven illegal opcodes (R87). -/
def illegalOpcodes : List Byte :=
  [0xD3, 0xDB, 0xDD, 0xE3, 0xE4, 0xEB, 0xEC, 0xED, 0xF4, 0xFC, 0xFD]

/-- Is this byte an illegal opcode (R87)? -/
def isIllegal (op : Byte) : Bool := illegalOpcodes.contains op

/-- The CB-page row of a byte (R85). -/
def decodeCb (o : Byte) : Instr := mapAt .nop cbMap o

/-- The decode algorithm (R86) on three bytes in fetch order, of which an instruction uses its own length: the opcode, then
for the prefix the CB-page row, else the row of the unprefixed page with its immediates. Total. -/
def decodeBytes (op b1 b2 : Byte) : Instr :=
  if op = cbPrefix then decodeCb b1 else mapAt (plain .nop) opcodeMap op b1 b2

/-- Instruction lengths by the first byte (R75, R77), a row of the map a line. -/
def lengthRows : List (List Nat) :=
  [[1, 3, 1, 1, 1, 1, 2, 1, 3, 1, 1, 1, 1, 1, 2, 1],
    [2, 3, 1, 1, 1, 1, 2, 1, 2, 1, 1, 1, 1, 1, 2, 1],
    [2, 3, 1, 1, 1, 1, 2, 1, 2, 1, 1, 1, 1, 1, 2, 1],
    [2, 3, 1, 1, 1, 1, 2, 1, 2, 1, 1, 1, 1, 1, 2, 1],
    [1, 1, 1, 1, 1, 1, 1, 1, 1, 1, 1, 1, 1, 1, 1, 1],
    [1, 1, 1, 1, 1, 1, 1, 1, 1, 1, 1, 1, 1, 1, 1, 1],
    [1, 1, 1, 1, 1, 1, 1, 1, 1, 1, 1, 1, 1, 1, 1, 1],
    [1, 1, 1, 1, 1, 1, 1, 1, 1, 1, 1, 1, 1, 1, 1, 1],
    [1, 1, 1, 1, 1, 1, 1, 1, 1, 1, 1, 1, 1, 1, 1, 1],
    [1, 1, 1, 1, 1, 1, 1, 1, 1, 1, 1, 1, 1, 1, 1, 1],
    [1, 1, 1, 1, 1, 1, 1, 1, 1, 1, 1, 1, 1, 1, 1, 1],
    [1, 1, 1, 1, 1, 1, 1, 1, 1, 1, 1, 1, 1, 1, 1, 1],
    [1, 1, 3, 3, 3, 1, 2, 1, 1, 1, 3, 2, 3, 3, 2, 1],
    [1, 1, 3, 1, 3, 1, 2, 1, 1, 1, 3, 1, 3, 1, 2, 1],
    [2, 1, 1, 1, 1, 1, 2, 1, 2, 1, 3, 1, 1, 1, 2, 1],
    [2, 1, 1, 1, 1, 1, 2, 1, 2, 1, 3, 1, 1, 1, 2, 1]]

/-- The length the first byte determines (R75). -/
def lengthOfOpcode (op : Byte) : Nat := mapAt 1 lengthRows op

/-- Why a byte list holds no instruction. -/
inductive DecodeError where
  /-- There is no byte. -/
  | noBytes
  /-- The list ends inside the instruction that this first byte begins. -/
  | truncated (op : Byte)
  deriving DecidableEq, Repr

/-- Read one instruction off the front of a byte list: the instruction and the bytes after it. Every byte begins an
instruction (R88), so the only refusals are the two of `DecodeError`. -/
def decode : List Byte → Except DecodeError (Instr × List Byte)
  | [] => .error .noBytes
  | op :: rest =>
    if rest.length + 1 < lengthOfOpcode op then .error (.truncated op)
    else .ok (decodeBytes op (rest.getD 0 0) (rest.getD 1 0), rest.drop (lengthOfOpcode op - 1))

/-- The bytes of an instruction in fetch order (R75, R77), from the encodings of opcode_table.json. -/
def encode (i : Instr) : List Byte :=
  match i with
  | .ldBcNn nn => [0x01, loByte nn, hiByte nn]
  | .ldBN n => [0x06, n]
  | .ldAtNnSp nn => [0x08, loByte nn, hiByte nn]
  | .ldCN n => [0x0E, n]
  | .stop x => [0x10, x]
  | .ldDeNn nn => [0x11, loByte nn, hiByte nn]
  | .ldDN n => [0x16, n]
  | .jrE e => [0x18, e]
  | .ldEN n => [0x1E, n]
  | .jrNzE e => [0x20, e]
  | .ldHlNn nn => [0x21, loByte nn, hiByte nn]
  | .ldHN n => [0x26, n]
  | .jrZE e => [0x28, e]
  | .ldLN n => [0x2E, n]
  | .jrNcE e => [0x30, e]
  | .ldSpNn nn => [0x31, loByte nn, hiByte nn]
  | .ldAtHlN n => [0x36, n]
  | .jrCE e => [0x38, e]
  | .ldAN n => [0x3E, n]
  | .jpNzNn nn => [0xC2, loByte nn, hiByte nn]
  | .jpNn nn => [0xC3, loByte nn, hiByte nn]
  | .callNzNn nn => [0xC4, loByte nn, hiByte nn]
  | .addAN n => [0xC6, n]
  | .jpZNn nn => [0xCA, loByte nn, hiByte nn]
  | .prefixCb o => [0xCB, o]
  | .callZNn nn => [0xCC, loByte nn, hiByte nn]
  | .callNn nn => [0xCD, loByte nn, hiByte nn]
  | .adcAN n => [0xCE, n]
  | .jpNcNn nn => [0xD2, loByte nn, hiByte nn]
  | .callNcNn nn => [0xD4, loByte nn, hiByte nn]
  | .subN n => [0xD6, n]
  | .jpCNn nn => [0xDA, loByte nn, hiByte nn]
  | .callCNn nn => [0xDC, loByte nn, hiByte nn]
  | .sbcAN n => [0xDE, n]
  | .ldhAtNA n => [0xE0, n]
  | .andN n => [0xE6, n]
  | .addSpE e => [0xE8, e]
  | .ldAtNnA nn => [0xEA, loByte nn, hiByte nn]
  | .xorN n => [0xEE, n]
  | .ldhAAtN n => [0xF0, n]
  | .orN n => [0xF6, n]
  | .ldHlSpE e => [0xF8, e]
  | .ldAAtNn nn => [0xFA, loByte nn, hiByte nn]
  | .cpN n => [0xFE, n]
  | .nop => [0x00]
  | .ldAtBcA => [0x02]
  | .incBc => [0x03]
  | .incB => [0x04]
  | .decB => [0x05]
  | .rlca => [0x07]
  | .addHlBc => [0x09]
  | .ldAAtBc => [0x0A]
  | .decBc => [0x0B]
  | .incC => [0x0C]
  | .decC => [0x0D]
  | .rrca => [0x0F]
  | .ldAtDeA => [0x12]
  | .incDe => [0x13]
  | .incD => [0x14]
  | .decD => [0x15]
  | .rla => [0x17]
  | .addHlDe => [0x19]
  | .ldAAtDe => [0x1A]
  | .decDe => [0x1B]
  | .incE => [0x1C]
  | .decE => [0x1D]
  | .rra => [0x1F]
  | .ldAtHlIncA => [0x22]
  | .incHl => [0x23]
  | .incH => [0x24]
  | .decH => [0x25]
  | .daa => [0x27]
  | .addHlHl => [0x29]
  | .ldAAtHlInc => [0x2A]
  | .decHl => [0x2B]
  | .incL => [0x2C]
  | .decL => [0x2D]
  | .cpl => [0x2F]
  | .ldAtHlDecA => [0x32]
  | .incSp => [0x33]
  | .incAtHl => [0x34]
  | .decAtHl => [0x35]
  | .scf => [0x37]
  | .addHlSp => [0x39]
  | .ldAAtHlDec => [0x3A]
  | .decSp => [0x3B]
  | .incA => [0x3C]
  | .decA => [0x3D]
  | .ccf => [0x3F]
  | .ldBB => [0x40]
  | .ldBC => [0x41]
  | .ldBD => [0x42]
  | .ldBE => [0x43]
  | .ldBH => [0x44]
  | .ldBL => [0x45]
  | .ldBAtHl => [0x46]
  | .ldBA => [0x47]
  | .ldCB => [0x48]
  | .ldCC => [0x49]
  | .ldCD => [0x4A]
  | .ldCE => [0x4B]
  | .ldCH => [0x4C]
  | .ldCL => [0x4D]
  | .ldCAtHl => [0x4E]
  | .ldCA => [0x4F]
  | .ldDB => [0x50]
  | .ldDC => [0x51]
  | .ldDD => [0x52]
  | .ldDE => [0x53]
  | .ldDH => [0x54]
  | .ldDL => [0x55]
  | .ldDAtHl => [0x56]
  | .ldDA => [0x57]
  | .ldEB => [0x58]
  | .ldEC => [0x59]
  | .ldED => [0x5A]
  | .ldEE => [0x5B]
  | .ldEH => [0x5C]
  | .ldEL => [0x5D]
  | .ldEAtHl => [0x5E]
  | .ldEA => [0x5F]
  | .ldHB => [0x60]
  | .ldHC => [0x61]
  | .ldHD => [0x62]
  | .ldHE => [0x63]
  | .ldHH => [0x64]
  | .ldHL => [0x65]
  | .ldHAtHl => [0x66]
  | .ldHA => [0x67]
  | .ldLB => [0x68]
  | .ldLC => [0x69]
  | .ldLD => [0x6A]
  | .ldLE => [0x6B]
  | .ldLH => [0x6C]
  | .ldLL => [0x6D]
  | .ldLAtHl => [0x6E]
  | .ldLA => [0x6F]
  | .ldAtHlB => [0x70]
  | .ldAtHlC => [0x71]
  | .ldAtHlD => [0x72]
  | .ldAtHlE => [0x73]
  | .ldAtHlH => [0x74]
  | .ldAtHlL => [0x75]
  | .halt => [0x76]
  | .ldAtHlA => [0x77]
  | .ldAB => [0x78]
  | .ldAC => [0x79]
  | .ldAD => [0x7A]
  | .ldAE => [0x7B]
  | .ldAH => [0x7C]
  | .ldAL => [0x7D]
  | .ldAAtHl => [0x7E]
  | .ldAA => [0x7F]
  | .addAB => [0x80]
  | .addAC => [0x81]
  | .addAD => [0x82]
  | .addAE => [0x83]
  | .addAH => [0x84]
  | .addAL => [0x85]
  | .addAAtHl => [0x86]
  | .addAA => [0x87]
  | .adcAB => [0x88]
  | .adcAC => [0x89]
  | .adcAD => [0x8A]
  | .adcAE => [0x8B]
  | .adcAH => [0x8C]
  | .adcAL => [0x8D]
  | .adcAAtHl => [0x8E]
  | .adcAA => [0x8F]
  | .subB => [0x90]
  | .subC => [0x91]
  | .subD => [0x92]
  | .subE => [0x93]
  | .subH => [0x94]
  | .subL => [0x95]
  | .subAtHl => [0x96]
  | .subA => [0x97]
  | .sbcAB => [0x98]
  | .sbcAC => [0x99]
  | .sbcAD => [0x9A]
  | .sbcAE => [0x9B]
  | .sbcAH => [0x9C]
  | .sbcAL => [0x9D]
  | .sbcAAtHl => [0x9E]
  | .sbcAA => [0x9F]
  | .andB => [0xA0]
  | .andC => [0xA1]
  | .andD => [0xA2]
  | .andE => [0xA3]
  | .andH => [0xA4]
  | .andL => [0xA5]
  | .andAtHl => [0xA6]
  | .andA => [0xA7]
  | .xorB => [0xA8]
  | .xorC => [0xA9]
  | .xorD => [0xAA]
  | .xorE => [0xAB]
  | .xorH => [0xAC]
  | .xorL => [0xAD]
  | .xorAtHl => [0xAE]
  | .xorA => [0xAF]
  | .orB => [0xB0]
  | .orC => [0xB1]
  | .orD => [0xB2]
  | .orE => [0xB3]
  | .orH => [0xB4]
  | .orL => [0xB5]
  | .orAtHl => [0xB6]
  | .orA => [0xB7]
  | .cpB => [0xB8]
  | .cpC => [0xB9]
  | .cpD => [0xBA]
  | .cpE => [0xBB]
  | .cpH => [0xBC]
  | .cpL => [0xBD]
  | .cpAtHl => [0xBE]
  | .cpA => [0xBF]
  | .retNz => [0xC0]
  | .popBc => [0xC1]
  | .pushBc => [0xC5]
  | .rst00 => [0xC7]
  | .retZ => [0xC8]
  | .ret => [0xC9]
  | .rst08 => [0xCF]
  | .retNc => [0xD0]
  | .popDe => [0xD1]
  | .illegalD3 => [0xD3]
  | .pushDe => [0xD5]
  | .rst10 => [0xD7]
  | .retC => [0xD8]
  | .reti => [0xD9]
  | .illegalDB => [0xDB]
  | .illegalDD => [0xDD]
  | .rst18 => [0xDF]
  | .popHl => [0xE1]
  | .ldAtCA => [0xE2]
  | .illegalE3 => [0xE3]
  | .illegalE4 => [0xE4]
  | .pushHl => [0xE5]
  | .rst20 => [0xE7]
  | .jpHl => [0xE9]
  | .illegalEB => [0xEB]
  | .illegalEC => [0xEC]
  | .illegalED => [0xED]
  | .rst28 => [0xEF]
  | .popAf => [0xF1]
  | .ldAAtC => [0xF2]
  | .di => [0xF3]
  | .illegalF4 => [0xF4]
  | .pushAf => [0xF5]
  | .rst30 => [0xF7]
  | .ldSpHl => [0xF9]
  | .ei => [0xFB]
  | .illegalFC => [0xFC]
  | .illegalFD => [0xFD]
  | .rst38 => [0xFF]
  | .rlcB => [0xCB, 0x00]
  | .rlcC => [0xCB, 0x01]
  | .rlcD => [0xCB, 0x02]
  | .rlcE => [0xCB, 0x03]
  | .rlcH => [0xCB, 0x04]
  | .rlcL => [0xCB, 0x05]
  | .rlcAtHl => [0xCB, 0x06]
  | .rlcA => [0xCB, 0x07]
  | .rrcB => [0xCB, 0x08]
  | .rrcC => [0xCB, 0x09]
  | .rrcD => [0xCB, 0x0A]
  | .rrcE => [0xCB, 0x0B]
  | .rrcH => [0xCB, 0x0C]
  | .rrcL => [0xCB, 0x0D]
  | .rrcAtHl => [0xCB, 0x0E]
  | .rrcA => [0xCB, 0x0F]
  | .rlB => [0xCB, 0x10]
  | .rlC => [0xCB, 0x11]
  | .rlD => [0xCB, 0x12]
  | .rlE => [0xCB, 0x13]
  | .rlH => [0xCB, 0x14]
  | .rlL => [0xCB, 0x15]
  | .rlAtHl => [0xCB, 0x16]
  | .rlA => [0xCB, 0x17]
  | .rrB => [0xCB, 0x18]
  | .rrC => [0xCB, 0x19]
  | .rrD => [0xCB, 0x1A]
  | .rrE => [0xCB, 0x1B]
  | .rrH => [0xCB, 0x1C]
  | .rrL => [0xCB, 0x1D]
  | .rrAtHl => [0xCB, 0x1E]
  | .rrA => [0xCB, 0x1F]
  | .slaB => [0xCB, 0x20]
  | .slaC => [0xCB, 0x21]
  | .slaD => [0xCB, 0x22]
  | .slaE => [0xCB, 0x23]
  | .slaH => [0xCB, 0x24]
  | .slaL => [0xCB, 0x25]
  | .slaAtHl => [0xCB, 0x26]
  | .slaA => [0xCB, 0x27]
  | .sraB => [0xCB, 0x28]
  | .sraC => [0xCB, 0x29]
  | .sraD => [0xCB, 0x2A]
  | .sraE => [0xCB, 0x2B]
  | .sraH => [0xCB, 0x2C]
  | .sraL => [0xCB, 0x2D]
  | .sraAtHl => [0xCB, 0x2E]
  | .sraA => [0xCB, 0x2F]
  | .swapB => [0xCB, 0x30]
  | .swapC => [0xCB, 0x31]
  | .swapD => [0xCB, 0x32]
  | .swapE => [0xCB, 0x33]
  | .swapH => [0xCB, 0x34]
  | .swapL => [0xCB, 0x35]
  | .swapAtHl => [0xCB, 0x36]
  | .swapA => [0xCB, 0x37]
  | .srlB => [0xCB, 0x38]
  | .srlC => [0xCB, 0x39]
  | .srlD => [0xCB, 0x3A]
  | .srlE => [0xCB, 0x3B]
  | .srlH => [0xCB, 0x3C]
  | .srlL => [0xCB, 0x3D]
  | .srlAtHl => [0xCB, 0x3E]
  | .srlA => [0xCB, 0x3F]
  | .bit0B => [0xCB, 0x40]
  | .bit0C => [0xCB, 0x41]
  | .bit0D => [0xCB, 0x42]
  | .bit0E => [0xCB, 0x43]
  | .bit0H => [0xCB, 0x44]
  | .bit0L => [0xCB, 0x45]
  | .bit0AtHl => [0xCB, 0x46]
  | .bit0A => [0xCB, 0x47]
  | .bit1B => [0xCB, 0x48]
  | .bit1C => [0xCB, 0x49]
  | .bit1D => [0xCB, 0x4A]
  | .bit1E => [0xCB, 0x4B]
  | .bit1H => [0xCB, 0x4C]
  | .bit1L => [0xCB, 0x4D]
  | .bit1AtHl => [0xCB, 0x4E]
  | .bit1A => [0xCB, 0x4F]
  | .bit2B => [0xCB, 0x50]
  | .bit2C => [0xCB, 0x51]
  | .bit2D => [0xCB, 0x52]
  | .bit2E => [0xCB, 0x53]
  | .bit2H => [0xCB, 0x54]
  | .bit2L => [0xCB, 0x55]
  | .bit2AtHl => [0xCB, 0x56]
  | .bit2A => [0xCB, 0x57]
  | .bit3B => [0xCB, 0x58]
  | .bit3C => [0xCB, 0x59]
  | .bit3D => [0xCB, 0x5A]
  | .bit3E => [0xCB, 0x5B]
  | .bit3H => [0xCB, 0x5C]
  | .bit3L => [0xCB, 0x5D]
  | .bit3AtHl => [0xCB, 0x5E]
  | .bit3A => [0xCB, 0x5F]
  | .bit4B => [0xCB, 0x60]
  | .bit4C => [0xCB, 0x61]
  | .bit4D => [0xCB, 0x62]
  | .bit4E => [0xCB, 0x63]
  | .bit4H => [0xCB, 0x64]
  | .bit4L => [0xCB, 0x65]
  | .bit4AtHl => [0xCB, 0x66]
  | .bit4A => [0xCB, 0x67]
  | .bit5B => [0xCB, 0x68]
  | .bit5C => [0xCB, 0x69]
  | .bit5D => [0xCB, 0x6A]
  | .bit5E => [0xCB, 0x6B]
  | .bit5H => [0xCB, 0x6C]
  | .bit5L => [0xCB, 0x6D]
  | .bit5AtHl => [0xCB, 0x6E]
  | .bit5A => [0xCB, 0x6F]
  | .bit6B => [0xCB, 0x70]
  | .bit6C => [0xCB, 0x71]
  | .bit6D => [0xCB, 0x72]
  | .bit6E => [0xCB, 0x73]
  | .bit6H => [0xCB, 0x74]
  | .bit6L => [0xCB, 0x75]
  | .bit6AtHl => [0xCB, 0x76]
  | .bit6A => [0xCB, 0x77]
  | .bit7B => [0xCB, 0x78]
  | .bit7C => [0xCB, 0x79]
  | .bit7D => [0xCB, 0x7A]
  | .bit7E => [0xCB, 0x7B]
  | .bit7H => [0xCB, 0x7C]
  | .bit7L => [0xCB, 0x7D]
  | .bit7AtHl => [0xCB, 0x7E]
  | .bit7A => [0xCB, 0x7F]
  | .res0B => [0xCB, 0x80]
  | .res0C => [0xCB, 0x81]
  | .res0D => [0xCB, 0x82]
  | .res0E => [0xCB, 0x83]
  | .res0H => [0xCB, 0x84]
  | .res0L => [0xCB, 0x85]
  | .res0AtHl => [0xCB, 0x86]
  | .res0A => [0xCB, 0x87]
  | .res1B => [0xCB, 0x88]
  | .res1C => [0xCB, 0x89]
  | .res1D => [0xCB, 0x8A]
  | .res1E => [0xCB, 0x8B]
  | .res1H => [0xCB, 0x8C]
  | .res1L => [0xCB, 0x8D]
  | .res1AtHl => [0xCB, 0x8E]
  | .res1A => [0xCB, 0x8F]
  | .res2B => [0xCB, 0x90]
  | .res2C => [0xCB, 0x91]
  | .res2D => [0xCB, 0x92]
  | .res2E => [0xCB, 0x93]
  | .res2H => [0xCB, 0x94]
  | .res2L => [0xCB, 0x95]
  | .res2AtHl => [0xCB, 0x96]
  | .res2A => [0xCB, 0x97]
  | .res3B => [0xCB, 0x98]
  | .res3C => [0xCB, 0x99]
  | .res3D => [0xCB, 0x9A]
  | .res3E => [0xCB, 0x9B]
  | .res3H => [0xCB, 0x9C]
  | .res3L => [0xCB, 0x9D]
  | .res3AtHl => [0xCB, 0x9E]
  | .res3A => [0xCB, 0x9F]
  | .res4B => [0xCB, 0xA0]
  | .res4C => [0xCB, 0xA1]
  | .res4D => [0xCB, 0xA2]
  | .res4E => [0xCB, 0xA3]
  | .res4H => [0xCB, 0xA4]
  | .res4L => [0xCB, 0xA5]
  | .res4AtHl => [0xCB, 0xA6]
  | .res4A => [0xCB, 0xA7]
  | .res5B => [0xCB, 0xA8]
  | .res5C => [0xCB, 0xA9]
  | .res5D => [0xCB, 0xAA]
  | .res5E => [0xCB, 0xAB]
  | .res5H => [0xCB, 0xAC]
  | .res5L => [0xCB, 0xAD]
  | .res5AtHl => [0xCB, 0xAE]
  | .res5A => [0xCB, 0xAF]
  | .res6B => [0xCB, 0xB0]
  | .res6C => [0xCB, 0xB1]
  | .res6D => [0xCB, 0xB2]
  | .res6E => [0xCB, 0xB3]
  | .res6H => [0xCB, 0xB4]
  | .res6L => [0xCB, 0xB5]
  | .res6AtHl => [0xCB, 0xB6]
  | .res6A => [0xCB, 0xB7]
  | .res7B => [0xCB, 0xB8]
  | .res7C => [0xCB, 0xB9]
  | .res7D => [0xCB, 0xBA]
  | .res7E => [0xCB, 0xBB]
  | .res7H => [0xCB, 0xBC]
  | .res7L => [0xCB, 0xBD]
  | .res7AtHl => [0xCB, 0xBE]
  | .res7A => [0xCB, 0xBF]
  | .set0B => [0xCB, 0xC0]
  | .set0C => [0xCB, 0xC1]
  | .set0D => [0xCB, 0xC2]
  | .set0E => [0xCB, 0xC3]
  | .set0H => [0xCB, 0xC4]
  | .set0L => [0xCB, 0xC5]
  | .set0AtHl => [0xCB, 0xC6]
  | .set0A => [0xCB, 0xC7]
  | .set1B => [0xCB, 0xC8]
  | .set1C => [0xCB, 0xC9]
  | .set1D => [0xCB, 0xCA]
  | .set1E => [0xCB, 0xCB]
  | .set1H => [0xCB, 0xCC]
  | .set1L => [0xCB, 0xCD]
  | .set1AtHl => [0xCB, 0xCE]
  | .set1A => [0xCB, 0xCF]
  | .set2B => [0xCB, 0xD0]
  | .set2C => [0xCB, 0xD1]
  | .set2D => [0xCB, 0xD2]
  | .set2E => [0xCB, 0xD3]
  | .set2H => [0xCB, 0xD4]
  | .set2L => [0xCB, 0xD5]
  | .set2AtHl => [0xCB, 0xD6]
  | .set2A => [0xCB, 0xD7]
  | .set3B => [0xCB, 0xD8]
  | .set3C => [0xCB, 0xD9]
  | .set3D => [0xCB, 0xDA]
  | .set3E => [0xCB, 0xDB]
  | .set3H => [0xCB, 0xDC]
  | .set3L => [0xCB, 0xDD]
  | .set3AtHl => [0xCB, 0xDE]
  | .set3A => [0xCB, 0xDF]
  | .set4B => [0xCB, 0xE0]
  | .set4C => [0xCB, 0xE1]
  | .set4D => [0xCB, 0xE2]
  | .set4E => [0xCB, 0xE3]
  | .set4H => [0xCB, 0xE4]
  | .set4L => [0xCB, 0xE5]
  | .set4AtHl => [0xCB, 0xE6]
  | .set4A => [0xCB, 0xE7]
  | .set5B => [0xCB, 0xE8]
  | .set5C => [0xCB, 0xE9]
  | .set5D => [0xCB, 0xEA]
  | .set5E => [0xCB, 0xEB]
  | .set5H => [0xCB, 0xEC]
  | .set5L => [0xCB, 0xED]
  | .set5AtHl => [0xCB, 0xEE]
  | .set5A => [0xCB, 0xEF]
  | .set6B => [0xCB, 0xF0]
  | .set6C => [0xCB, 0xF1]
  | .set6D => [0xCB, 0xF2]
  | .set6E => [0xCB, 0xF3]
  | .set6H => [0xCB, 0xF4]
  | .set6L => [0xCB, 0xF5]
  | .set6AtHl => [0xCB, 0xF6]
  | .set6A => [0xCB, 0xF7]
  | .set7B => [0xCB, 0xF8]
  | .set7C => [0xCB, 0xF9]
  | .set7D => [0xCB, 0xFA]
  | .set7E => [0xCB, 0xFB]
  | .set7H => [0xCB, 0xFC]
  | .set7L => [0xCB, 0xFD]
  | .set7AtHl => [0xCB, 0xFE]
  | .set7A => [0xCB, 0xFF]

/-- The length of an instruction in bytes (R75). -/
def Instr.length (i : Instr) : Nat := (encode i).length

/-- The bytes of a table word `w` of `nbits` bits, in fetch order, padded with zeros to the longest instruction. The table
numbers a two-byte row with its first byte 0xCB in bits 15 to 8 (its `match` and `fixed`), so such a word is read high byte
first; any other word has its first byte in bits 7 to 0 (log 3). -/
def tableBytes (nbits w : Nat) : List Byte :=
  if nbits = 16 ∧ w / 256 = 0xCB then [0xCB, BitVec.ofNat 8 w, 0]
  else [BitVec.ofNat 8 w, BitVec.ofNat 8 (w / 256), BitVec.ofNat 8 (w / 65536)]

/-- What the decoder reads from an instruction whose bits are `w`, numbered as the opcode table numbers them (log 3). -/
def decodeTableWord (nbits w : Nat) : Option Instr :=
  match decode (tableBytes nbits w) with
  | .ok (i, _) => some i
  | .error _ => none

end Sys2Proof
end

