-- ==== Sys2Proof/Machine/CycleTable.lean ====
section
/-! DEFINITION. The parameter CYCLES (spec/00_scope.md R7; spec/92_eei_decisions.md D19): the M-cycle cost of every opcode, as a
table, and its default, the table of opcode_table.json. -/

namespace Sys2Proof.Machine

/-- A table of M-cycle costs (R7: "M-cycle cost per opcode"; spec/70_reset_and_hazards.md R383). -/
structure CycleTable where
  /-- `cycles_m` of the unprefixed page, a row of the map a line. -/
  page : List (List Nat)
  /-- `cycles_m_not_taken` of the conditional transfers, by opcode. -/
  notTaken : List (Byte × Nat)
  /-- `cycles_m` of the CB page, a row of the map a line. -/
  cb : List (List Nat)
  deriving DecidableEq, Repr

/-- `cycles_m` of the unprefixed page. The prefix and the illegal opcodes have none. -/
def pageCycles : List (List Nat) :=
  [[1, 3, 2, 2, 1, 1, 2, 1, 5, 2, 2, 2, 1, 1, 2, 1],
    [1, 3, 2, 2, 1, 1, 2, 1, 3, 2, 2, 2, 1, 1, 2, 1],
    [3, 3, 2, 2, 1, 1, 2, 1, 3, 2, 2, 2, 1, 1, 2, 1],
    [3, 3, 2, 2, 3, 3, 3, 1, 3, 2, 2, 2, 1, 1, 2, 1],
    [1, 1, 1, 1, 1, 1, 2, 1, 1, 1, 1, 1, 1, 1, 2, 1],
    [1, 1, 1, 1, 1, 1, 2, 1, 1, 1, 1, 1, 1, 1, 2, 1],
    [1, 1, 1, 1, 1, 1, 2, 1, 1, 1, 1, 1, 1, 1, 2, 1],
    [2, 2, 2, 2, 2, 2, 1, 2, 1, 1, 1, 1, 1, 1, 2, 1],
    [1, 1, 1, 1, 1, 1, 2, 1, 1, 1, 1, 1, 1, 1, 2, 1],
    [1, 1, 1, 1, 1, 1, 2, 1, 1, 1, 1, 1, 1, 1, 2, 1],
    [1, 1, 1, 1, 1, 1, 2, 1, 1, 1, 1, 1, 1, 1, 2, 1],
    [1, 1, 1, 1, 1, 1, 2, 1, 1, 1, 1, 1, 1, 1, 2, 1],
    [5, 3, 4, 4, 6, 4, 2, 4, 5, 4, 4, 0, 6, 6, 2, 4],
    [5, 3, 4, 0, 6, 4, 2, 4, 5, 4, 4, 0, 6, 0, 2, 4],
    [3, 3, 2, 0, 0, 4, 2, 4, 4, 1, 4, 0, 0, 0, 2, 4],
    [3, 3, 2, 1, 0, 4, 2, 4, 3, 2, 4, 1, 0, 0, 2, 4]]

/-- `cycles_m_not_taken` (R244, R241, R246, R248 of spec/45_control_transfer.md). -/
def notTakenCycles : List (Byte × Nat) :=
  [(0x20, 2), (0x28, 2), (0x30, 2), (0x38, 2), (0xC2, 3), (0xCA, 3), (0xD2, 3), (0xDA, 3),
    (0xC4, 3), (0xCC, 3), (0xD4, 3), (0xDC, 3), (0xC0, 2), (0xC8, 2), (0xD0, 2), (0xD8, 2)]

/-- `cycles_m` of a row of the CB page: 2 on a register, `m` on the byte at HL (columns 6 and E). -/
def cbRow (m : Nat) : List Nat := [2, 2, 2, 2, 2, 2, m, 2, 2, 2, 2, 2, 2, 2, m, 2]

/-- `cycles_m` of the CB page (R205 to R226): on (HL), 3 for BIT (rows 4 to 7) and 4 for the rest. -/
def cbCycles : List (List Nat) :=
  [cbRow 4, cbRow 4, cbRow 4, cbRow 4, cbRow 3, cbRow 3, cbRow 3, cbRow 3,
    cbRow 4, cbRow 4, cbRow 4, cbRow 4, cbRow 4, cbRow 4, cbRow 4, cbRow 4]

/-- The default of CYCLES (R7, R383). -/
def CycleTable.default : CycleTable := { page := pageCycles, notTaken := notTakenCycles, cb := cbCycles }

end Sys2Proof.Machine
end

