-- ==== Sys2Proof/Machine/Devices.lean ====
section
/-! DEFINITION. The state records of the platform devices (spec/60_exceptions.md sections 4 and 6): plain data. -/

namespace Sys2Proof.Machine

/-- Bytes by key, in one canonical form: keys strictly rising, no byte equal to `Memory.blank` (Machine/Memory.lean).
DESIGN CHOICE log 1. -/
abbrev Memory := List Host.Cell

/-- The timer (R310). `sub` is `timer_sub`. -/
structure Timer where
  divCounter : Word
  tima : Byte
  tma : Byte
  tac : BitVec 3
  sub : Nat
  deriving DecidableEq, Repr, Inhabited

/-- The PPU's registers and dot counter (R341, R342). `statSel` is STAT[6:3]; the mode is not stored, it is a function
of these fields (DEDUCED, log 28). -/
structure Ppu where
  lcdc : Byte
  statSel : BitVec 4
  scy : Byte
  scx : Byte
  ly : Byte
  lyc : Byte
  bgp : Byte
  obp0 : Byte
  obp1 : Byte
  wy : Byte
  wx : Byte
  dot : Nat
  deriving DecidableEq, Repr, Inhabited

/-- One APU channel: its registers NRx1 to NRx4 as written, and the state that the trigger and the step functions
of R353 to R356 work on. -/
structure Channel where
  nr1 : Byte
  nr2 : Byte
  nr3 : Byte
  nr4 : Byte
  enabled : Bool
  length : Nat
  volume : BitVec 4
  envTimer : BitVec 3
  freqTimer : BitVec 11
  dutyPos : BitVec 3
  deriving DecidableEq, Repr, Inhabited

/-- The APU (R352 to R359): two pulse channels, wave, noise, the sweep of channel 1 and the frame sequencer.
`seqCycles` counts M-cycles to the frame sequencer's next step, and `seqStep` says which step that is (R352; log 17). Wave RAM
is `State.waveRam`. -/
structure Apu where
  ch1 : Channel
  ch2 : Channel
  ch3 : Channel
  ch4 : Channel
  nr10 : Byte
  nr30 : Byte
  nr50 : Byte
  nr51 : Byte
  nr52 : Byte
  sweepTimer : BitVec 3
  sweepShadow : BitVec 11
  seqCycles : Nat
  seqStep : Nat
  deriving DecidableEq, Repr, Inhabited

/-- The MBC's state (R360; 92 D32): the selected banks, the RAM-enabled flag and the banking mode flag. -/
structure Mbc where
  romBank : BitVec 7
  ramBank : BitVec 2
  ramEnabled : Bool
  mode : Bool
  deriving DecidableEq, Repr, Inhabited

/-- A channel with nothing written. -/
def Channel.zero : Channel :=
  { nr1 := 0, nr2 := 0, nr3 := 0, nr4 := 0, enabled := false, length := 0, volume := 0, envTimer := 0
    freqTimer := 0, dutyPos := 0 }

/-- The APU in the source's zero state (spec/60_exceptions.md R359). -/
def Apu.zero : Apu :=
  { ch1 := Channel.zero, ch2 := Channel.zero, ch3 := Channel.zero, ch4 := Channel.zero
    nr10 := 0, nr30 := 0, nr50 := 0, nr51 := 0, nr52 := 0
    sweepTimer := 0, sweepShadow := 0, seqCycles := 0, seqStep := 0 }

/-- What a BUS or a PLATFORM_TICK that is given in place of the spec's own works on (spec/00_scope.md R7; log 37): the devices
the spec describes, and `own`, in which it keeps whatever else it holds, its region contents among it, as one number. -/
structure Platform where
  timer : Timer
  ppu : Ppu
  apu : Apu
  own : Nat
  deriving DecidableEq, Repr, Inhabited

/-- The APU's channels by number (R352): pulse with sweep, pulse, wave, noise. -/
inductive ChannelId where
  | one
  | two
  | three
  | four
  deriving DecidableEq, Repr

/-- The register numbers NRx1 to NRx4 that every channel has (R358). -/
inductive ChannelReg where
  | nr1
  | nr2
  | nr3
  | nr4
  deriving DecidableEq, Repr

/-- The APU's registers by name (R358). -/
inductive ApuReg where
  | nr10
  | nr30
  | nr50
  | nr51
  | nr52
  | chan (c : ChannelId) (r : ChannelReg)
  deriving DecidableEq, Repr

end Sys2Proof.Machine
end

