-- ==== Sys2Proof/Config.lean ====
section
/-! DEFINITION. The named parameters of spec/00_scope.md R7, and the free values: opaque constants with no body, about
which nothing can be proved. -/

namespace Sys2Proof

/-- RESET_MODE (R7; 92 D6). -/
inductive ResetMode where
  | postBoot
  | bootRom
  deriving DecidableEq, Repr

/-- MBC_TYPE (R7, R361): the two cartridge types whose codes and control ranges the spec gives. A loader refuses any
other (92 D32). -/
inductive MbcType where
  | romOnly
  | mbc1
  deriving DecidableEq, Repr

/-- Which BUS, or which PLATFORM_TICK, the machine has (R7; 92 D4, D18; log 37): the one the spec describes (20 R53 to R59; 60
R298), or the one with number `k` of those a host may give in its place, of which nothing is known but the interface. -/
inductive Source where
  | spec
  | given (k : Nat)
  deriving DecidableEq, Repr

/-- STOP_WAKE (R7; 46 R264; log 6), a predicate on the machine state as plain data. -/
inductive WakePredicate where
  /-- Some request bit of the mask is 1 in IF. -/
  | requests (mask : BitVec 5)
  /-- Some bit of the mask is 1 in the byte the bus reads at an address: IE, or an I/O register. -/
  | bits (a : Word) (mask : Byte)
  | not (p : WakePredicate)
  | and (p q : WakePredicate)
  | or (p q : WakePredicate)
  /-- Any other predicate on the whole state: number `k` of `Config.stopWake`. -/
  | given (k : Nat)
  deriving DecidableEq, Repr

/-- What one step of the APU's frame sequencer does (60 R352). -/
structure SequencerStep where
  length : Bool
  sweep : Bool
  envelope : Bool
  deriving DecidableEq, Repr

/-- APU_DETAIL (R7; 92 D28): the frame sequencer's rates, the values after the boot program and what the power bit stops, as data;
and, under the number `variant`, what the spec leaves with no value at all: the read masks, the details of the wave and noise
channels and the rest of the power bit's effect, free values of Config (logs 12 to 15). -/
structure ApuDetail where
  /-- M-cycles to a step of the frame sequencer (60 R352: 2048). -/
  seqPeriod : Nat
  /-- The sequencer's steps, in a cycle (60 R352; log 17). -/
  seqSteps : List SequencerStep
  /-- Does `apu_tick` advance the sequencer while NR52's power bit is 0 (60 R358; log 13)? -/
  stepsWhileOff : Bool
  /-- The APU after the boot program, but for NR52 and channel 1's enabled flag (60 R359; log 20). -/
  postBoot : Machine.Apu
  /-- Wave RAM after the boot program (60 R359; log 20). -/
  postBootWave : Machine.Memory
  variant : Nat
  deriving DecidableEq, Repr

/-- The 512 Hz frame sequencer of the DMG: length at 256 Hz, sweep at 128 Hz, envelope at 64 Hz (60 R352). Which of the eight
steps does which is PRESUMED (log 17). -/
def dmgSequencer : List SequencerStep :=
  [⟨true, false, false⟩, ⟨false, false, false⟩, ⟨true, true, false⟩, ⟨false, false, false⟩,
    ⟨true, false, false⟩, ⟨false, false, false⟩, ⟨true, true, false⟩, ⟨false, false, true⟩]

/-- The default of APU_DETAIL (R7: "the values of 60_exceptions.md rules R352-R359"). The values after the boot program that R359
does not give are 0 (DESIGN CHOICE, log 20), and `apu_tick` steps whatever the power bit is (DESIGN CHOICE, log 13). -/
def ApuDetail.default : ApuDetail :=
  { seqPeriod := 2048, seqSteps := dmgSequencer, stepsWhileOff := true, postBoot := Machine.Apu.zero, postBootWave := []
    variant := 0 }

/-- The parameters of R7 that a machine fixes for its life. They are plain data of `State` and no step changes them, so
a statement about every state is a statement about every value of them (DESIGN CHOICE, log 5, safe). -/
structure Params where
  /-- RESET_MODE. -/
  resetMode : ResetMode
  /-- HALT_BUG. -/
  haltBug : Bool
  /-- BUS. -/
  bus : Source
  /-- PLATFORM_TICK. -/
  tick : Source
  /-- UNUSABLE_READ. -/
  unusableRead : Byte
  /-- STOP_WAKE. -/
  stopWake : WakePredicate
  /-- CYCLES. -/
  cycles : Machine.CycleTable
  /-- APU_DETAIL. -/
  apu : ApuDetail
  /-- MBC_TYPE. -/
  mbcType : MbcType
  /-- rom_banks. -/
  romBanks : Nat
  /-- ram_banks. -/
  ramBanks : Nat
  deriving DecidableEq, Repr

/-- The defaults of R7, with the platform the spec describes and the cartridge that the header of an all-zero image describes
(R361; log 2). -/
def Params.default : Params :=
  { resetMode := .postBoot, haltBug := false, bus := .spec, tick := .spec, unusableRead := 0xFF
    stopWake := .requests 0b10000, cycles := Machine.CycleTable.default, apu := ApuDetail.default
    mbcType := .romOnly, romBanks := 2, ramBanks := 0 }

/-- Are the BUS and the PLATFORM_TICK the ones the spec describes? -/
def Params.specPlatform (p : Params) : Prop := p.bus = .spec ∧ p.tick = .spec

/-- FREE VALUE (log 10): what a read of a platform-owned I/O register gives (R58, R305, R341: "the platform's (`BUS`)").
It is applied to what the platform holds, `State.own`; to `State.freeIdx`, which every tick and every write of such a register
advances; and to the address. -/
opaque Config.platformRead (own idx addr : Nat) : Byte

/-- FREE VALUE (log 10): what the platform holds after a write of `v` to a register of its own. -/
opaque Config.platformWrite (own idx addr : Nat) (v : Byte) : Nat

/-- FREE VALUE (logs 10 and 35): what the platform holds after a host's poke of a register of its own (20 R65; 92 D29). -/
opaque Config.platformPoke (own idx addr : Nat) (v : Byte) : Nat

/-- FREE VALUE (log 12): what a read of an APU register or wave RAM gives, from APU_DETAIL, the APU's state, wave RAM, the byte
stored there and the address (R358: "The read-back masks ... are `OPEN`"). -/
opaque Config.apuRead (d : ApuDetail) (apu : Machine.Apu) (wave : Machine.Memory) (stored : Byte) (addr : Nat) : Byte

/-- FREE VALUE (logs 13 and 15): byte `k` of wave RAM after a write of `v` whose effect on it is open (R358: "the wave and noise
channel details and the effect of NR52's power bit are `OPEN`"). -/
opaque Config.waveByte (d : ApuDetail) (apu : Machine.Apu) (wave : Machine.Memory) (addr : Nat) (v : Byte) (k : Nat) : Byte

/-- FREE VALUE (log 13): the APU after a write of `v` to NR52 (R358: "the effect of NR52's power bit" is `OPEN`). -/
opaque Config.apuPower (d : ApuDetail) (apu : Machine.Apu) (v : Byte) : Machine.Apu

/-- FREE VALUE (log 13): the APU after a write to another of its registers while NR52's power bit is 0. -/
opaque Config.apuOffWrite (d : ApuDetail) (apu : Machine.Apu) (addr : Nat) (v : Byte) : Machine.Apu

/-- FREE VALUE (log 14): what a trigger reloads a length counter of 0 with (R353 names no value). -/
opaque Config.lengthReload (d : ApuDetail) (ch : Nat) (nrx1 : Byte) : Nat

/-- FREE VALUE (log 15): the volume, envelope timer, frequency timer and duty position of the wave or noise channel after
a trigger (R358: "the wave and noise channel details" are `OPEN`). -/
opaque Config.waveNoiseTrigger (d : ApuDetail) (ch : Nat) (c : Machine.Channel) : Machine.Channel

/-- FREE VALUE (log 37): the byte a given BUS reads at an address (R7: BUS is "the platform's byte read and write, and each
region's contents"). -/
opaque Config.busRead (k : Nat) (p : Machine.Platform) (a : Word) : Byte

/-- FREE VALUE (log 37): the platform after a given BUS takes a byte. -/
opaque Config.busWrite (k : Nat) (p : Machine.Platform) (a : Word) (v : Byte) : Machine.Platform

/-- FREE VALUE (log 37): the platform after a host's poke past a given BUS (20 R65). -/
opaque Config.busPoke (k : Nat) (p : Machine.Platform) (a : Word) (v : Byte) : Machine.Platform

/-- FREE VALUE (log 37): the platform after a given PLATFORM_TICK of `c` M-cycles, and the IF bits it sets (R7: "how devices
advance by a step's cycle count, and which IF bits they set"). -/
opaque Config.platformTick (k : Nat) (p : Machine.Platform) (c : Nat) : Machine.Platform × BitVec 5

/-- FREE VALUE (log 29): the version tag of a save-state buffer (R326; 92 D33). -/
opaque Config.saveVersion : Nat

/-- FREE VALUE (log 29): the length of a save-state buffer (R326; 92 D33). -/
opaque Config.saveLength : Nat

end Sys2Proof
end

