-- ==== Sys2Proof/Machine/Apu.lean ====
section
/-! DEFINITION. The APU (spec/60_exceptions.md R352 to R359). What R358 leaves `OPEN` under APU_DETAIL is a free value of
Config. -/

namespace Sys2Proof.Machine

/-- The number of a channel (R352). -/
def ChannelId.num : ChannelId → Nat
  | .one => 1
  | .two => 2
  | .three => 3
  | .four => 4

/-- A channel of the APU. -/
def Apu.chan (a : Apu) : ChannelId → Channel
  | .one => a.ch1
  | .two => a.ch2
  | .three => a.ch3
  | .four => a.ch4

/-- The APU with one channel replaced. -/
def Apu.setChan (a : Apu) (i : ChannelId) (c : Channel) : Apu :=
  match i with
  | .one => { a with ch1 := c }
  | .two => { a with ch2 := c }
  | .three => { a with ch3 := c }
  | .four => { a with ch4 := c }

/-- The APU register at an address (R358); wave RAM is not among them. -/
def apuRegOf (a : Nat) : Option ApuReg :=
  match a with
  | 0xFF10 => some .nr10
  | 0xFF11 => some (.chan .one .nr1)
  | 0xFF12 => some (.chan .one .nr2)
  | 0xFF13 => some (.chan .one .nr3)
  | 0xFF14 => some (.chan .one .nr4)
  | 0xFF16 => some (.chan .two .nr1)
  | 0xFF17 => some (.chan .two .nr2)
  | 0xFF18 => some (.chan .two .nr3)
  | 0xFF19 => some (.chan .two .nr4)
  | 0xFF1A => some .nr30
  | 0xFF1B => some (.chan .three .nr1)
  | 0xFF1C => some (.chan .three .nr2)
  | 0xFF1D => some (.chan .three .nr3)
  | 0xFF1E => some (.chan .three .nr4)
  | 0xFF20 => some (.chan .four .nr1)
  | 0xFF21 => some (.chan .four .nr2)
  | 0xFF22 => some (.chan .four .nr3)
  | 0xFF23 => some (.chan .four .nr4)
  | 0xFF24 => some .nr50
  | 0xFF25 => some .nr51
  | 0xFF26 => some .nr52
  | _ => none

/-- A channel's stored register. -/
def Channel.reg (c : Channel) : ChannelReg → Byte
  | .nr1 => c.nr1
  | .nr2 => c.nr2
  | .nr3 => c.nr3
  | .nr4 => c.nr4

/-- A channel with one register stored. -/
def Channel.setReg (c : Channel) (r : ChannelReg) (v : Byte) : Channel :=
  match r with
  | .nr1 => { c with nr1 := v }
  | .nr2 => { c with nr2 := v }
  | .nr3 => { c with nr3 := v }
  | .nr4 => { c with nr4 := v }

/-- The byte stored in an APU register. -/
def Apu.stored (a : Apu) : ApuReg → Byte
  | .nr10 => a.nr10
  | .nr30 => a.nr30
  | .nr50 => a.nr50
  | .nr51 => a.nr51
  | .nr52 => a.nr52
  | .chan i r => (a.chan i).reg r

/-- The APU with one register's byte stored and no other effect. -/
def Apu.store (a : Apu) (r : ApuReg) (v : Byte) : Apu :=
  match r with
  | .nr10 => { a with nr10 := v }
  | .nr30 => { a with nr30 := v }
  | .nr50 => { a with nr50 := v }
  | .nr51 => { a with nr51 := v }
  | .nr52 => { a with nr52 := v }
  | .chan i q => a.setChan i ((a.chan i).setReg q v)

/-- The 11-bit frequency: NRx4[2:0] above NRx3 (R353, R354 name it; its place is PRESUMED, log 18). -/
def Channel.freq (c : Channel) : BitVec 11 := c.nr4.extractLsb' 0 3 ++ c.nr3

/-- The channel with its frequency register replaced. -/
def Channel.setFreq (c : Channel) (f : BitVec 11) : Channel :=
  { c with nr3 := f.extractLsb' 0 8, nr4 := c.nr4.extractLsb' 3 5 ++ f.extractLsb' 8 3 }

/-- The length counter a trigger leaves: reloaded if it is 0 (R353), with a free value (log 14). -/
def triggerLength (d : ApuDetail) (i : ChannelId) (c : Channel) : Nat :=
  if c.length = 0 then Config.lengthReload d i.num c.nr1 else c.length

/-- The trigger of a pulse channel (R353). -/
def triggerPulse (d : ApuDetail) (i : ChannelId) (c : Channel) : Channel :=
  { c with
    enabled := true, length := triggerLength d i c, volume := c.nr2.extractLsb' 4 4
    envTimer := c.nr2.extractLsb' 0 3, freqTimer := c.freq, dutyPos := 0 }

/-- The trigger of the wave or the noise channel: R353's effects, with free values for what R358 leaves open (log 15). -/
def triggerOther (d : ApuDetail) (i : ChannelId) (c : Channel) : Channel :=
  let w := Config.waveNoiseTrigger d i.num c
  { c with
    enabled := true, length := triggerLength d i c, volume := w.volume
    envTimer := w.envTimer, freqTimer := w.freqTimer, dutyPos := w.dutyPos }

/-- A trigger (R353); that of channel 1 also loads the sweep's shadow frequency. -/
def Apu.trigger (d : ApuDetail) (a : Apu) (i : ChannelId) : Apu :=
  match i with
  | .one => { a with ch1 := triggerPulse d .one a.ch1, sweepShadow := a.ch1.freq }
  | .two => { a with ch2 := triggerPulse d .two a.ch2 }
  | .three => { a with ch3 := triggerOther d .three a.ch3 }
  | .four => { a with ch4 := triggerOther d .four a.ch4 }

/-- A write to an APU register other than NR52 while the APU is powered on: the byte is stored, and NRx4 with bit 7 set
triggers its channel (R353, R358). -/
def Apu.writeOn (d : ApuDetail) (a : Apu) (r : ApuReg) (v : Byte) : Apu :=
  match r with
  | .chan i .nr4 => if v.getLsbD 7 then (a.store r v).trigger d i else a.store r v
  | _ => a.store r v

/-- A write to an APU register (R353, R358). NR52 and every write while its power bit is 0 have free effects (log 13). -/
def Apu.write (d : ApuDetail) (a : Apu) (r : ApuReg) (addr : Nat) (v : Byte) : Apu :=
  if r = .nr52 then { Config.apuPower d a v with nr52 := v }
  else if a.nr52.getLsbD 7 then a.writeOn d r v
  else Config.apuOffWrite d a addr v

/-- Wave RAM after a write whose effect on it is open (R358): every byte is a free value (logs 13 and 15). -/
def waveOpen (d : ApuDetail) (a : Apu) (wave : Memory) (addr : Nat) (v : Byte) : Memory :=
  Memory.ofBytesFrom 0xFF30 ((List.range 16).map (Config.waveByte d a wave addr v))

/-- Is it open what a write to an APU register does to wave RAM (R358)? It is for a write of NR52 and for every write while its
power bit is 0 (log 13), and for a trigger of the wave channel (log 15). -/
def Apu.opensWave (a : Apu) (r : ApuReg) (v : Byte) : Bool :=
  r = .nr52 || !a.nr52.getLsbD 7 || (r = .chan .three .nr4 && v.getLsbD 7)

/-- Wave RAM after a write to an APU register. -/
def Apu.waveAfter (d : ApuDetail) (a : Apu) (wave : Memory) (r : ApuReg) (addr : Nat) (v : Byte) : Memory :=
  if a.opensWave r v then waveOpen d a wave addr v else wave

/-- Wave RAM after a write to it (R358): the byte is stored, but while the power bit is 0 (log 13) or the wave channel plays
(log 15) the effect is open. -/
def Apu.waveStore (d : ApuDetail) (a : Apu) (wave : Memory) (addr : Nat) (v : Byte) : Memory :=
  if a.nr52.getLsbD 7 && !a.ch3.enabled then wave.write addr v else waveOpen d a wave addr v

/-- `step_length` on one channel (R356): the length enable is NRx4 bit 6. -/
def stepLength (c : Channel) : Channel :=
  if c.nr4.getLsbD 6 && c.length != 0 then
    { c with length := c.length - 1, enabled := c.enabled && c.length != 1 }
  else c

/-- The volume one envelope step on (R355): up if NR2[3] and below 15, down if not NR2[3] and above 0. -/
def envelopeVolume (c : Channel) : BitVec 4 :=
  if c.nr2.getLsbD 3 then (if c.volume = 15 then 15 else c.volume + 1)
  else (if c.volume = 0 then 0 else c.volume - 1)

/-- `step_envelope` on one channel (R355). The timer counts down, and when it expires it is reloaded from the period
(DEDUCED, log 16). -/
def stepEnvelope (c : Channel) : Channel :=
  if c.nr2.extractLsb' 0 3 = 0 then c
  else if c.envTimer.toNat ≤ 1 then
    { c with envTimer := c.nr2.extractLsb' 0 3, volume := envelopeVolume c }
  else { c with envTimer := c.envTimer - 1 }

/-- The sweep's new frequency, unbounded (R354). -/
def sweepNewFreq (nr10 : Byte) (f : BitVec 11) : Nat :=
  let delta := f.toNat >>> (nr10.extractLsb' 0 3).toNat
  if nr10.getLsbD 3 then f.toNat - delta else f.toNat + delta

/-- The sweep recomputation of channel 1 (R354): above 0x7FF the channel is disabled and its frequency kept. -/
def sweepChannel (nr10 : Byte) (c : Channel) : Channel :=
  if 0x7FF < sweepNewFreq nr10 c.freq then { c with enabled := false }
  else if nr10.extractLsb' 0 3 ≠ 0 then c.setFreq (BitVec.ofNat 11 (sweepNewFreq nr10 c.freq))
  else c

/-- `step_sweep` (R354): the period is NR10[6:4]; the timer as in `stepEnvelope` (DEDUCED, log 16). -/
def stepSweep (a : Apu) : Apu :=
  if a.nr10.extractLsb' 4 3 = 0 then a
  else if a.sweepTimer.toNat ≤ 1 then
    { a with sweepTimer := a.nr10.extractLsb' 4 3, ch1 := sweepChannel a.nr10 a.ch1 }
  else { a with sweepTimer := a.sweepTimer - 1 }

/-- `step_length` on every channel (R356). -/
def Apu.stepLengths (a : Apu) : Apu :=
  { a with ch1 := stepLength a.ch1, ch2 := stepLength a.ch2, ch3 := stepLength a.ch3, ch4 := stepLength a.ch4 }

/-- `step_envelope` on the channels with an envelope: the pulse channels and noise (R355; log 15). -/
def Apu.stepEnvelopes (a : Apu) : Apu :=
  { a with ch1 := stepEnvelope a.ch1, ch2 := stepEnvelope a.ch2, ch4 := stepEnvelope a.ch4 }

/-- What one step of the frame sequencer does (R352). -/
def sequencerStep (st : SequencerStep) (a : Apu) : Apu :=
  let a1 := if st.length then a.stepLengths else a
  let a2 := if st.sweep then stepSweep a1 else a1
  if st.envelope then a2.stepEnvelopes else a2

/-- One step of the frame sequencer (R352): the step the sequence has at this place, and the place moves on. -/
def frameStep (d : ApuDetail) (a : Apu) : Apu :=
  { sequencerStep (d.seqSteps.getD a.seqStep ⟨false, false, false⟩) a with seqStep := (a.seqStep + 1) % d.seqSteps.length }

/-- `n` steps of the frame sequencer. -/
def frameSteps (d : ApuDetail) (n : Nat) (a : Apu) : Apu :=
  match n with
  | 0 => a
  | k + 1 => frameSteps d k (frameStep d a)

/-- The frame sequencer advanced by `c` M-cycles (R352): a step at every `seqPeriod` of them, which is 2048 by default. -/
def advanceSequencer (d : ApuDetail) (a : Apu) (c : Nat) : Apu :=
  frameSteps d ((a.seqCycles + c) / d.seqPeriod) { a with seqCycles := (a.seqCycles + c) % d.seqPeriod }

/-- `apu_tick` (R352). R352 does not speak of NR52's power bit, whose effect R358 leaves open: whether the sequencer advances while
it is 0 is APU_DETAIL's, and that it does by default is the model's choice (DESIGN CHOICE, log 13). -/
def apuTick (d : ApuDetail) (a : Apu) (c : Nat) : Apu :=
  if a.nr52.getLsbD 7 || d.stepsWhileOff then advanceSequencer d a c else a

/-- The 8-step duty waveform NRx1[7:6] selects, leftmost step first (R356). -/
def dutyWave (sel : BitVec 2) : BitVec 8 :=
  match sel.toNat with
  | 0 => 0b00000001
  | 1 => 0b10000001
  | 2 => 0b10000111
  | _ => 0b01111110

/-- The accessor `sweep time` of R357. What it projects R357 does not say: the period field NR10[6:4], not the running sweep timer
(DESIGN CHOICE, log 44). -/
def Apu.sweepTime (a : Apu) : BitVec 3 := a.nr10.extractLsb' 4 3

/-- The accessor `duty` of R357: the waveform that NRx1[7:6] selects (R356; DESIGN CHOICE, log 44). -/
def Channel.duty (c : Channel) : BitVec 8 := dutyWave (c.nr1.extractLsb' 6 2)

end Sys2Proof.Machine
end

