-- ==== Sys2Proof/Machine/Mbc.lean ====
section
/-! DEFINITION. The MBC: bank arithmetic and the control writes (spec/60_exceptions.md R360; spec/20_memory.md R56, R57). -/

namespace Sys2Proof.Machine

/-- The image offset of an address in 0x4000-0x7FFF: the selected bank modulo the banks present (R360). -/
def romOffset (p : Params) (m : Mbc) (a : Word) : Nat :=
  m.romBank.toNat % p.romBanks * 0x4000 + (a.toNat - 0x4000)

/-- The chip offset of an address in 0xA000-0xBFFF: the selected RAM bank modulo the banks present, in banks of 8 KiB,
the size of the window (R53, R360; log 24). -/
def extRamOffset (p : Params) (m : Mbc) (a : Word) : Nat :=
  m.ramBank.toNat % p.ramBanks * 0x2000 + (a.toNat - 0xA000)

/-- Does external RAM answer? The RAM-enabled flag gates it (R57), and there must be a bank (log 24). -/
def extRamOn (p : Params) (m : Mbc) : Bool := m.ramEnabled && p.ramBanks != 0

/-- The low five bits of the ROM bank from a write to 0x2000-0x3FFF: 0 selects 1 (R360). -/
def mbc1BankLow (v : Byte) : BitVec 5 :=
  if v.extractLsb' 0 5 = 0 then 1 else v.extractLsb' 0 5

/-- The control writes of MBC1 (R360). Whether a write to 0x4000-0x5FFF sets the RAM bank or the ROM bank's upper bits goes
by the mode flag (PRESUMED, log 22). The spec gives neither the bit of a byte written to 0x6000-0x7FFF that is the mode flag nor the
width of the RAM bank register: bit 0 and two bits, as on the chip (PRESUMED, log 42). -/
def mbc1Write (m : Mbc) (a : Word) (v : Byte) : Mbc :=
  if a.toNat < 0x2000 then { m with ramEnabled := v.extractLsb' 0 4 = 0xA }
  else if a.toNat < 0x4000 then { m with romBank := m.romBank.extractLsb' 5 2 ++ mbc1BankLow v }
  else if a.toNat < 0x6000 then
    if m.mode then { m with ramBank := v.extractLsb' 0 2 }
    else { m with romBank := v.extractLsb' 0 2 ++ m.romBank.extractLsb' 0 5 }
  else { m with mode := v.getLsbD 0 }

/-- A write to 0x0000-0x7FFF is a command to the MBC and never changes a ROM byte (R56); a cartridge with no MBC intercepts
nothing (93 I15). -/
def mbcWrite (p : Params) (m : Mbc) (a : Word) (v : Byte) : Mbc :=
  match p.mbcType with
  | .romOnly => m
  | .mbc1 => mbc1Write m a v

end Sys2Proof.Machine
end

