-- ==== Sys2Proof/Machine/Ppu.lean ====
section
/-! DEFINITION. The PPU's registers and scanline state machine (spec/60_exceptions.md R340 to R346). -/

namespace Sys2Proof.Machine

/-- The PPU modes, by STAT[1:0] (R341, R342). -/
inductive PpuMode where
  | hblank
  | vblank
  | oamSearch
  | transfer
  deriving DecidableEq, Repr

/-- STAT[1:0] of a mode (R342). -/
def PpuMode.code : PpuMode → BitVec 2
  | .hblank => 0
  | .vblank => 1
  | .oamSearch => 2
  | .transfer => 3

/-- Is the LCD on (R341: LCDC bit 7)? -/
def Ppu.on (p : Ppu) : Bool := p.lcdc.getLsbD 7

/-- The mode (R342); 0 while the LCD is off (R346). -/
def Ppu.mode (p : Ppu) : PpuMode :=
  if p.on = false then .hblank
  else if 144 ≤ p.ly.toNat then .vblank
  else if p.dot < 80 then .oamSearch
  else if p.dot < 252 then .transfer
  else .hblank

/-- What a read of STAT gives (R341, R344). -/
def Ppu.readStat (p : Ppu) : Byte :=
  1#1 ++ p.statSel ++ (if p.ly = p.lyc then 1#1 else 0#1) ++ p.mode.code

/-- A write to LCDC (R341, R346): unless the LCD was on and stays on, the machine stands at line 0, dot 0. -/
def Ppu.writeLcdc (p : Ppu) (v : Byte) : Ppu :=
  if p.on && v.getLsbD 7 then { p with lcdc := v }
  else { p with lcdc := v, ly := 0, dot := 0 }

/-- Request LCD STAT when `b` (R345, R299). -/
def requestStat (b : Bool) (ifl : BitVec 5) : BitVec 5 :=
  if b then ifl ||| 0b00010 else ifl

/-- Is the STAT source of entering a mode selected (R345)? Mode 3 has no source. -/
def Ppu.modeSource (p : Ppu) (m : PpuMode) : Bool :=
  match m with
  | .hblank => p.statSel.getLsbD 0
  | .vblank => p.statSel.getLsbD 1
  | .oamSearch => p.statSel.getLsbD 2
  | .transfer => false

/-- The position one dot later (R342): dot 456 ends the line, and LY counts modulo 154. -/
def Ppu.advanceDot (p : Ppu) : Ppu :=
  if p.dot + 1 = 456 then { p with dot := 0, ly := BitVec.ofNat 8 ((p.ly.toNat + 1) % 154) }
  else { p with dot := p.dot + 1 }

/-- The requests of a move from `p` to `q` (R343, R345): VBlank when LY becomes 144, STAT for a change of LY to LYC and for
a change of mode. -/
def ppuRequests (p q : Ppu) (ifl : BitVec 5) : BitVec 5 :=
  let vb := if q.ly ≠ p.ly ∧ q.ly = 144 then ifl ||| 0b00001 else ifl
  let lyc := requestStat (q.ly ≠ p.ly ∧ q.ly = q.lyc ∧ q.statSel.getLsbD 3) vb
  requestStat (q.mode ≠ p.mode ∧ q.modeSource q.mode) lyc

/-- One dot. -/
def ppuDot (p : Ppu) (ifl : BitVec 5) : Ppu × BitVec 5 :=
  (p.advanceDot, ppuRequests p p.advanceDot ifl)

/-- `n` dots. -/
def ppuDots (n : Nat) (p : Ppu) (ifl : BitVec 5) : Ppu × BitVec 5 :=
  match n with
  | 0 => (p, ifl)
  | k + 1 => ppuDots k (ppuDot p ifl).1 (ppuDot p ifl).2

/-- `ppu_tick` (R342): nothing while the LCD is off. -/
def ppuTick (p : Ppu) (ifl : BitVec 5) (dots : Nat) : Ppu × BitVec 5 :=
  if p.on then ppuDots dots p ifl else (p, ifl)

end Sys2Proof.Machine
end

