-- ==== Sys2Proof/Machine/State.lean ====
section
/-! DEFINITION. The machine's state: everything spec/10_state.md R20 and the device sections of spec/60_exceptions.md
give it, as plain data, and its reset values. -/

namespace Sys2Proof.Machine

/-- The information of the one synchronous exception (R36, R281). -/
structure IllegalInstruction where
  opcode : Byte
  pc : Word
  deriving DecidableEq, Repr

/-- Why a step stops (R11, R281). -/
inductive Fault where
  /-- Raised by the step and by the eleven ILLEGAL meanings on an illegal opcode, and by a step from a state whose `fault`
  is already set (R36, R261, R281). Safe: the spec makes it fatal, and the machine takes no later step. -/
  | illegalInstruction (info : IllegalInstruction)
  /-- Raised by the step while the engine is stopped and STOP_WAKE does not hold (R11 `Stuck`, R264). Safe: the spec takes
  no step there. -/
  | stuck
  deriving DecidableEq, Repr

/-- Why an instruction has no meaning. -/
inductive Refusal where
  /-- Raised by no arm of `exec`: every row of the opcode table has its meaning. Safe. -/
  | notModelled (mnemonic : String)
  deriving DecidableEq, Repr

/-- The register file (R21, R27, R28). BC, DE, HL and AF are views of it, not storage (R22). -/
structure Regs where
  a : Byte
  f : Byte
  b : Byte
  c : Byte
  d : Byte
  e : Byte
  h : Byte
  l : Byte
  sp : Word
  pc : Word
  deriving DecidableEq, Repr

/-- The interrupt controller (R30, R31, R32, R34). `ifl` is IF[4:0], the five stored bits. -/
structure Interrupts where
  ime : Bool
  ie : Byte
  ifl : BitVec 5
  eiPending : Bool
  deriving DecidableEq, Repr

/-- Execution control (R37). `breakpoints` is a set, kept as a strictly rising list (DESIGN CHOICE, log 33, safe). -/
structure Control where
  running : Bool
  breakpoints : List Word
  totalCycles : Nat
  deriving DecidableEq, Repr

/-- What the platform requests in one PLATFORM_TICK (R305): the serial and the joypad interrupt. -/
structure PlatformRequest where
  serial : Bool
  joypad : Bool
  deriving DecidableEq, Repr

/-- The whole machine. `requests`, `freeIdx` and `own` are the model's own fields (logs 10, 11 and 37): the requests the platform
has still to make, one entry a tick; the counter the free reads are applied to; and what the platform holds beside what the spec gives: its own I/O
registers, and whatever a BUS or PLATFORM_TICK given in place of the spec's keeps. -/
structure State where
  regs : Regs
  intr : Interrupts
  halted : Bool
  stopped : Bool
  haltBugLatch : Bool
  fault : Option IllegalInstruction
  ctl : Control
  timer : Timer
  ppu : Ppu
  apu : Apu
  mbc : Mbc
  /-- VRAM, WRAM, OAM and HRAM, by bus address (R53, R59). -/
  ram : Memory
  /-- Wave RAM, by bus address (R358). -/
  waveRam : Memory
  /-- External RAM by chip offset (R57). -/
  extRam : Memory
  /-- The cartridge image by image offset (R360, R371). -/
  rom : Memory
  /-- The boot ROM by address, and whether it overlays 0x0000-0x00FF (R372; log 25). -/
  bootRom : Memory
  bootOverlay : Bool
  params : Params
  requests : List PlatformRequest
  freeIdx : Nat
  own : Nat
  deriving DecidableEq, Repr

/-- What a meaning answers. -/
abbrev Result := Host.Outcome State Fault Refusal

/-- The register file at reset (R39). -/
def Regs.reset : ResetMode → Regs
  | .postBoot =>
    { a := 0x01, f := 0xB0, b := 0x00, c := 0x13, d := 0x00, e := 0xD8, h := 0x01, l := 0x4D
      sp := 0xFFFE, pc := 0x0100 }
  | .bootRom =>
    { a := 0, f := 0, b := 0, c := 0, d := 0, e := 0, h := 0, l := 0, sp := 0x0000, pc := 0x0000 }

/-- The interrupt controller at reset (R39). -/
def Interrupts.reset : ResetMode → Interrupts
  | .postBoot => { ime := false, ie := 0x00, ifl := 0x01, eiPending := false }
  | .bootRom => { ime := false, ie := 0x00, ifl := 0x00, eiPending := false }

/-- Execution control at reset (R37). -/
def Control.reset : Control :=
  { running := false, breakpoints := [], totalCycles := 0 }

/-- The timer at reset (R316). -/
def Timer.reset : ResetMode → Timer
  | .postBoot => { divCounter := 0x2AC0, tima := 0, tma := 0, tac := 0, sub := 0 }
  | .bootRom => { divCounter := 0x0000, tima := 0, tma := 0, tac := 0, sub := 0 }

/-- The PPU at reset (R349). -/
def Ppu.reset : ResetMode → Ppu
  | .postBoot =>
    { lcdc := 0x91, statSel := 0, scy := 0, scx := 0, ly := 0, lyc := 0
      bgp := 0xFC, obp0 := 0xFF, obp1 := 0xFF, wy := 0, wx := 0, dot := 0 }
  | .bootRom =>
    { lcdc := 0x00, statSel := 0, scy := 0, scx := 0, ly := 0, lyc := 0
      bgp := 0x00, obp0 := 0x00, obp1 := 0x00, wy := 0, wx := 0, dot := 0 }

/-- The APU at reset (R359): PostBoot has NR52 = 0xF1 and channel 1 enabled, and "every other APU value is `APU_DETAIL`'s"
(log 20); BootRom has all registers 0. -/
def Apu.reset (d : ApuDetail) : ResetMode → Apu
  | .postBoot => { d.postBoot with nr52 := 0xF1, ch1 := { d.postBoot.ch1 with enabled := true } }
  | .bootRom => Apu.zero

/-- Wave RAM at reset (R358, R359): APU_DETAIL's in PostBoot, 0 in BootRom. -/
def waveReset (d : ApuDetail) : ResetMode → Memory
  | .postBoot => d.postBootWave
  | .bootRom => []

/-- The MBC at reset (R370; the mode flag is DESIGN CHOICE, log 22). -/
def Mbc.reset : Mbc :=
  { romBank := 1, ramBank := 0, ramEnabled := false, mode := false }

/-- What a machine is created with: the images of the cartridge and the boot ROM; what RAM and external RAM hold at power-on, which
the spec leaves as draws (R74, R370, R371; 92 D7); and what a given platform holds (log 37). -/
structure Images where
  rom : Memory
  bootRom : Memory
  ram : Memory
  extRam : Memory
  own : Nat
  deriving DecidableEq, Repr

/-- Images that list nothing. -/
def Images.empty : Images :=
  { rom := [], bootRom := [], ram := [], extRam := [], own := 0 }

/-- Machine reset (R370), for any parameters and any images: the draws of R74 are the argument. -/
def State.powerOn (p : Params) (img : Images) : State :=
  { regs := Regs.reset p.resetMode
    intr := Interrupts.reset p.resetMode
    halted := false
    stopped := false
    haltBugLatch := false
    fault := none
    ctl := Control.reset
    timer := Timer.reset p.resetMode
    ppu := Ppu.reset p.resetMode
    apu := Apu.reset p.apu p.resetMode
    mbc := Mbc.reset
    ram := img.ram
    waveRam := waveReset p.apu p.resetMode
    extRam := img.extRam
    rom := img.rom
    bootRom := img.bootRom
    bootOverlay := p.resetMode = .bootRom
    params := p
    requests := []
    freeIdx := 0
    own := img.own }

/-- The machine right after reset: the default parameters of R7 (PostBoot), no cartridge image, memory with nothing
listed (logs 1 and 2). -/
def State.reset : State := State.powerOn Params.default Images.empty

end Sys2Proof.Machine
end

