-- ==== Sys2Proof/Machine/Timer.lean ====
section
/-! DEFINITION. The timer (spec/60_exceptions.md R310 to R317). -/

namespace Sys2Proof.Machine

/-- M-cycles per TIMA increment, by TAC[1:0] (R313). -/
def timerPeriod (sel : BitVec 2) : Nat :=
  match sel.toNat with
  | 0 => 256
  | 1 => 4
  | 2 => 16
  | _ => 64

/-- The period the timer's TAC selects (R313). -/
def Timer.period (t : Timer) : Nat := timerPeriod (t.tac.extractLsb' 0 2)

/-- Is the timer enabled (R310: TAC bit 2)? -/
def Timer.enabled (t : Timer) : Bool := t.tac.getLsbD 2

/-- The visible DIV byte: `div_counter[13:6]` (R310, R312). -/
def Timer.div (t : Timer) : Byte := t.divCounter.extractLsb' 6 8

/-- What a read of TAC gives (R310: bits 7..3 read as 1). -/
def Timer.readTac (t : Timer) : Byte := 0b11111#5 ++ t.tac

/-- A DIV write of any value, and STOP (R315): the counter is cleared, `timer_sub` is kept. -/
def Timer.resetDiv (t : Timer) : Timer := { t with divCounter := 0 }

/-- One TIMA increment with its overflow: reload from TMA and request IF[2] at once (R311). -/
def timaStep (t : Timer) (ifl : BitVec 5) : Timer × BitVec 5 :=
  if t.tima = 0xFF then ({ t with tima := t.tma }, ifl ||| 0b00100)
  else ({ t with tima := t.tima + 1 }, ifl)

/-- `n` increments in a row. -/
def timaSteps (n : Nat) (t : Timer) (ifl : BitVec 5) : Timer × BitVec 5 :=
  match n with
  | 0 => (t, ifl)
  | k + 1 => timaSteps k (timaStep t ifl).1 (timaStep t ifl).2

/-- Advance the sub-counter by `c` M-cycles: the `while` loop of R311 runs (sub + c) / period times and leaves the remainder
(DEDUCED, log 27, safe). -/
def timerAdvance (t : Timer) (ifl : BitVec 5) (c : Nat) : Timer × BitVec 5 :=
  timaSteps ((t.sub + c) / t.period) { t with sub := (t.sub + c) % t.period } ifl

/-- `timer_tick` (R311): the divider always advances (R312), TIMA only while the timer is enabled. -/
def timerTick (t : Timer) (ifl : BitVec 5) (c : Nat) : Timer × BitVec 5 :=
  if t.enabled then timerAdvance { t with divCounter := t.divCounter + BitVec.ofNat 16 c } ifl c
  else ({ t with divCounter := t.divCounter + BitVec.ofNat 16 c }, ifl)

end Sys2Proof.Machine
end

