-- ==== Sys2Proof/Machine/Bus.lean ====
section
/-! DEFINITION. The bus: every access of the engine is one `busRead` or one `busWrite` (spec/20_memory.md R50 to R66). -/

namespace Sys2Proof.Machine

/-- The regions of the address map (R53). -/
inductive Region where
  | romFixed
  | romBanked
  | vram
  | extRam
  | wram
  | echo
  | oam
  | unusable
  | io
  | hram
  | ie
  deriving DecidableEq, Repr

/-- The region of an address (R53). Total (R51). -/
def regionOf (a : Word) : Region :=
  if a.toNat < 0x4000 then .romFixed
  else if a.toNat < 0x8000 then .romBanked
  else if a.toNat < 0xA000 then .vram
  else if a.toNat < 0xC000 then .extRam
  else if a.toNat < 0xE000 then .wram
  else if a.toNat < 0xFE00 then .echo
  else if a.toNat < 0xFEA0 then .oam
  else if a.toNat < 0xFF00 then .unusable
  else if a.toNat < 0xFF80 then .io
  else if a.toNat < 0xFFFF then .hram
  else .ie

/-- Who owns an I/O address (R58). `bootOff` is 0xFF50 (R372), `wave` is wave RAM (R358), and what no rule names is the
platform's. -/
inductive IoReg where
  | ifl
  | div
  | tima
  | tma
  | tac
  | lcdc
  | stat
  | scy
  | scx
  | ly
  | lyc
  | bgp
  | obp0
  | obp1
  | wy
  | wx
  | apu (r : ApuReg)
  | wave
  | bootOff
  | platform
  deriving DecidableEq, Repr

/-- The register at an I/O address (R32, R310, R341, R358, R372). -/
def ioRegOf (a : Word) : IoReg :=
  match a.toNat with
  | 0xFF0F => .ifl
  | 0xFF04 => .div
  | 0xFF05 => .tima
  | 0xFF06 => .tma
  | 0xFF07 => .tac
  | 0xFF40 => .lcdc
  | 0xFF41 => .stat
  | 0xFF42 => .scy
  | 0xFF43 => .scx
  | 0xFF44 => .ly
  | 0xFF45 => .lyc
  | 0xFF47 => .bgp
  | 0xFF48 => .obp0
  | 0xFF49 => .obp1
  | 0xFF4A => .wy
  | 0xFF4B => .wx
  | 0xFF50 => .bootOff
  | n =>
    match apuRegOf n with
    | some r => .apu r
    | none => if 0xFF30 ≤ n ∧ n ≤ 0xFF3F then .wave else .platform

/-- The work-RAM address an echo address mirrors (R54). -/
def echoOf (a : Word) : Word := a - 0x2000

/-- What a read of IF gives: bits 7..5 read as 1 (R32). -/
def Interrupts.readIf (i : Interrupts) : Byte := 0b111#3 ++ i.ifl

/-- A read of an I/O register (R32, R310, R341, R358). A platform-owned one gives a free value (log 10), as does the
read-back of an APU register or of wave RAM (log 12); 0xFF50 has no stated read and is the platform's too. -/
def ioRead (s : State) (a : Word) : Byte :=
  match ioRegOf a with
  | .ifl => s.intr.readIf
  | .div => s.timer.div
  | .tima => s.timer.tima
  | .tma => s.timer.tma
  | .tac => s.timer.readTac
  | .lcdc => s.ppu.lcdc
  | .stat => s.ppu.readStat
  | .scy => s.ppu.scy
  | .scx => s.ppu.scx
  | .ly => s.ppu.ly
  | .lyc => s.ppu.lyc
  | .bgp => s.ppu.bgp
  | .obp0 => s.ppu.obp0
  | .obp1 => s.ppu.obp1
  | .wy => s.ppu.wy
  | .wx => s.ppu.wx
  | .apu r => Config.apuRead s.params.apu s.apu s.waveRam (s.apu.stored r) a.toNat
  | .wave => Config.apuRead s.params.apu s.apu s.waveRam (s.waveRam.read a.toNat) a.toNat
  | .bootOff => Config.platformRead s.own s.freeIdx a.toNat
  | .platform => Config.platformRead s.own s.freeIdx a.toNat

/-- A read by the address map (R53). -/
def mapRead (s : State) (a : Word) : Byte :=
  match regionOf a with
  | .romFixed => if s.bootOverlay ∧ a.toNat < 0x100 then s.bootRom.read a.toNat else s.rom.read a.toNat
  | .romBanked => s.rom.read (romOffset s.params s.mbc a)
  | .vram => s.ram.read a.toNat
  | .extRam => if extRamOn s.params s.mbc then s.extRam.read (extRamOffset s.params s.mbc a) else 0xFF
  | .wram => s.ram.read a.toNat
  | .echo => s.ram.read (echoOf a).toNat
  | .oam => s.ram.read a.toNat
  | .unusable => s.params.unusableRead
  | .io => ioRead s a
  | .hram => s.ram.read a.toNat
  | .ie => s.intr.ie

/-- The parts of the machine that a given BUS or PLATFORM_TICK works on (log 37). -/
def State.platform (s : State) : Platform := { timer := s.timer, ppu := s.ppu, apu := s.apu, own := s.own }

/-- The machine with those parts replaced. -/
def State.setPlatform (s : State) (p : Platform) : State :=
  { s with timer := p.timer, ppu := p.ppu, apu := p.apu, own := p.own }

/-- A read by a given BUS (00 R7; log 37). IE and IF are the engine's own registers at fixed addresses (92 D4). -/
def givenRead (k : Nat) (s : State) (a : Word) : Byte :=
  if a = 0xFFFF then s.intr.ie
  else if a = 0xFF0F then s.intr.readIf
  else Config.busRead k s.platform a

/-- The bus read (R52): the spec's address map, or the BUS given in its place (00 R7). No read changes the machine (R64). -/
def busRead (s : State) (a : Word) : Byte :=
  match s.params.bus with
  | .spec => mapRead s a
  | .given k => givenRead k s a

/-- The machine with one byte of RAM stored. -/
def State.storeRam (s : State) (a : Nat) (v : Byte) : State := { s with ram := s.ram.write a v }

/-- The machine after a write to a register of the platform's own (log 10): what the platform then holds is a free value of what it
held, of the register and of the byte. -/
def State.storePlatform (s : State) (a : Nat) (v : Byte) : State :=
  { s with own := Config.platformWrite s.own s.freeIdx a v, freeIdx := s.freeIdx + 1 }

/-- The machine with a changed timer. -/
def State.mapTimer (s : State) (f : Timer → Timer) : State := { s with timer := f s.timer }

/-- The machine with a changed PPU. -/
def State.mapPpu (s : State) (f : Ppu → Ppu) : State := { s with ppu := f s.ppu }

/-- A write to an I/O register (R32, R315, R341, R346, R353, R358, R372). LY ignores it; a platform-owned register takes it
in a way the spec does not give, so that its later reads are free values that may depend on the byte (log 10); so does 0xFF50, of
which the spec gives no read, beside switching the boot ROM off (logs 10 and 25). What a write leaves in wave RAM is open in part
(logs 13 and 15). -/
def ioWrite (s : State) (a : Word) (v : Byte) : State :=
  match ioRegOf a with
  | .ifl => { s with intr := { s.intr with ifl := v.extractLsb' 0 5 } }
  | .div => s.mapTimer Timer.resetDiv
  | .tima => s.mapTimer fun t => { t with tima := v }
  | .tma => s.mapTimer fun t => { t with tma := v }
  | .tac => s.mapTimer fun t => { t with tac := v.extractLsb' 0 3 }
  | .lcdc => s.mapPpu fun p => p.writeLcdc v
  | .stat => s.mapPpu fun p => { p with statSel := v.extractLsb' 3 4 }
  | .scy => s.mapPpu fun p => { p with scy := v }
  | .scx => s.mapPpu fun p => { p with scx := v }
  | .ly => s
  | .lyc => s.mapPpu fun p => { p with lyc := v }
  | .bgp => s.mapPpu fun p => { p with bgp := v }
  | .obp0 => s.mapPpu fun p => { p with obp0 := v }
  | .obp1 => s.mapPpu fun p => { p with obp1 := v }
  | .wy => s.mapPpu fun p => { p with wy := v }
  | .wx => s.mapPpu fun p => { p with wx := v }
  | .apu r =>
    { s with
      apu := s.apu.write s.params.apu r a.toNat v
      waveRam := s.apu.waveAfter s.params.apu s.waveRam r a.toNat v }
  | .wave => { s with waveRam := s.apu.waveStore s.params.apu s.waveRam a.toNat v }
  | .bootOff => { s.storePlatform a.toNat v with bootOverlay := false }
  | .platform => s.storePlatform a.toNat v

/-- A write by the address map (R53, R64): ROM addresses are MBC commands (R56), disabled external RAM and the unusable region drop
it (R55, R57), echo stores in work RAM (R54). -/
def mapWrite (s : State) (a : Word) (v : Byte) : State :=
  match regionOf a with
  | .romFixed => { s with mbc := mbcWrite s.params s.mbc a v }
  | .romBanked => { s with mbc := mbcWrite s.params s.mbc a v }
  | .vram => s.storeRam a.toNat v
  | .extRam =>
    if extRamOn s.params s.mbc then { s with extRam := s.extRam.write (extRamOffset s.params s.mbc a) v } else s
  | .wram => s.storeRam a.toNat v
  | .echo => s.storeRam (echoOf a).toNat v
  | .oam => s.storeRam a.toNat v
  | .unusable => s
  | .io => ioWrite s a v
  | .hram => s.storeRam a.toNat v
  | .ie => { s with intr := { s.intr with ie := v } }

/-- A write by a given BUS (00 R7; log 37), IE and IF being the engine's own. -/
def givenWrite (k : Nat) (s : State) (a : Word) (v : Byte) : State :=
  if a = 0xFFFF then { s with intr := { s.intr with ie := v } }
  else if a = 0xFF0F then { s with intr := { s.intr with ifl := v.extractLsb' 0 5 } }
  else s.setPlatform (Config.busWrite k s.platform a v)

/-- The bus write (R52): the spec's address map, or the BUS given in its place (00 R7). -/
def busWrite (s : State) (a : Word) (v : Byte) : State :=
  match s.params.bus with
  | .spec => mapWrite s a v
  | .given k => givenWrite k s a v

end Sys2Proof.Machine
end

