-- ==== Sys2Proof/Machine/Names.lean ====
section
/-! DEFINITION. The operand names of the register, pair and condition codes (spec/10_state.md R23, R24;
spec/30_encoding.md R80). -/

namespace Sys2Proof.Machine

/-- The seven registers a 3-bit code names (R23). -/
inductive R8 where
  | b
  | c
  | d
  | e
  | h
  | l
  | a
  deriving DecidableEq, Repr

/-- What a 3-bit code selects: a register, or for code 6 the memory byte at HL (R23). -/
inductive Loc8 where
  | reg (r : R8)
  | atHl
  deriving DecidableEq, Repr

/-- The pairs of `rp` (R24): LD rr,nn; INC rr; DEC rr; ADD HL,rr. -/
inductive R16 where
  | bc
  | de
  | hl
  | sp
  deriving DecidableEq, Repr

/-- The pairs of `rp2` (R24): PUSH and POP. -/
inductive Q16 where
  | bc
  | de
  | hl
  | af
  deriving DecidableEq, Repr

/-- The four conditions (R80). -/
inductive Cond where
  | nz
  | z
  | nc
  | c
  deriving DecidableEq, Repr

/-- The 3-bit code of a register (R23). -/
def R8.code : R8 → BitVec 3
  | .b => 0
  | .c => 1
  | .d => 2
  | .e => 3
  | .h => 4
  | .l => 5
  | .a => 7

/-- The 3-bit code of a register or of the byte at HL (R23). -/
def Loc8.code : Loc8 → BitVec 3
  | .reg r => r.code
  | .atHl => 6

/-- What a 3-bit code selects (R23). -/
def Loc8.ofCode (z : BitVec 3) : Loc8 :=
  match z.toNat with
  | 0 => .reg .b
  | 1 => .reg .c
  | 2 => .reg .d
  | 3 => .reg .e
  | 4 => .reg .h
  | 5 => .reg .l
  | 6 => .atHl
  | _ => .reg .a

/-- The 2-bit code of a pair of `rp` (R24). -/
def R16.code : R16 → BitVec 2
  | .bc => 0
  | .de => 1
  | .hl => 2
  | .sp => 3

/-- The 2-bit code of a pair of `rp2` (R24). -/
def Q16.code : Q16 → BitVec 2
  | .bc => 0
  | .de => 1
  | .hl => 2
  | .af => 3

/-- The 2-bit code of a condition (R80). -/
def Cond.code : Cond → BitVec 2
  | .nz => 0
  | .z => 1
  | .nc => 2
  | .c => 3

/-- The condition of a 2-bit code (R80). -/
def Cond.ofCode (cc : BitVec 2) : Cond :=
  match cc.toNat with
  | 0 => .nz
  | 1 => .z
  | 2 => .nc
  | _ => .c

end Sys2Proof.Machine
end

