-- ==== Sys2Proof/Machine/Ops.lean ====
section
/-! DEFINITION. The named operations over registers, flags and the stack, and the one way an interrupt is taken and
returned from. -/

namespace Sys2Proof.Machine

/-- Write the register file through `g`. -/
def State.mapRegs (s : State) (g : Regs → Regs) : State := { s with regs := g s.regs }

/-- Write the interrupt controller through `g`. -/
def State.mapIntr (s : State) (g : Interrupts → Interrupts) : State := { s with intr := g s.intr }

/-- The program counter (R28). -/
def State.pc (s : State) : Word := s.regs.pc

/-- Set the program counter. -/
def State.setPc (s : State) (v : Word) : State := s.mapRegs fun r => { r with pc := v }

/-- The stack pointer (R27). -/
def State.sp (s : State) : Word := s.regs.sp

/-- Set the stack pointer. -/
def State.setSp (s : State) (v : Word) : State := s.mapRegs fun r => { r with sp := v }

/-- The accumulator (R21). -/
def State.acc (s : State) : Byte := s.regs.a

/-- Set the accumulator. -/
def State.setAcc (s : State) (v : Byte) : State := s.mapRegs fun r => { r with a := v }

/-- What F stores of a byte written to it: bits 3..0 are always 0 (R25). -/
def maskF (v : Byte) : Byte := v &&& 0xF0

/-- Write F whole (R25). -/
def State.setF (s : State) (v : Byte) : State := s.mapRegs fun r => { r with f := maskF v }

/-- `reg8[r]` for a register code (R23). -/
def State.r8 (s : State) : R8 → Byte
  | .b => s.regs.b
  | .c => s.regs.c
  | .d => s.regs.d
  | .e => s.regs.e
  | .h => s.regs.h
  | .l => s.regs.l
  | .a => s.regs.a

/-- `reg8[r] <- v` for a register code (R23). -/
def State.setR8 (s : State) (r : R8) (v : Byte) : State :=
  s.mapRegs fun g =>
    match r with
    | .b => { g with b := v }
    | .c => { g with c := v }
    | .d => { g with d := v }
    | .e => { g with e := v }
    | .h => { g with h := v }
    | .l => { g with l := v }
    | .a => { g with a := v }

/-- BC = B:C (R22). -/
def State.bc (s : State) : Word := mkWord s.regs.b s.regs.c

/-- DE = D:E (R22). -/
def State.de (s : State) : Word := mkWord s.regs.d s.regs.e

/-- HL = H:L (R22). -/
def State.hl (s : State) : Word := mkWord s.regs.h s.regs.l

/-- AF = A:F (R22). -/
def State.af (s : State) : Word := mkWord s.regs.a s.regs.f

/-- Write BC (R22). -/
def State.setBc (s : State) (v : Word) : State := s.mapRegs fun r => { r with b := hiByte v, c := loByte v }

/-- Write DE (R22). -/
def State.setDe (s : State) (v : Word) : State := s.mapRegs fun r => { r with d := hiByte v, e := loByte v }

/-- Write HL (R22). -/
def State.setHl (s : State) (v : Word) : State := s.mapRegs fun r => { r with h := hiByte v, l := loByte v }

/-- Write AF (R22): F takes only its flag bits. -/
def State.setAf (s : State) (v : Word) : State := s.mapRegs fun r => { r with a := hiByte v, f := maskF (loByte v) }

/-- `rp[p]` (R24). -/
def State.r16 (s : State) : R16 → Word
  | .bc => s.bc
  | .de => s.de
  | .hl => s.hl
  | .sp => s.sp

/-- `rp[p] <- v` (R24). -/
def State.setR16 (s : State) (p : R16) (v : Word) : State :=
  match p with
  | .bc => s.setBc v
  | .de => s.setDe v
  | .hl => s.setHl v
  | .sp => s.setSp v

/-- `rp2[p]` (R24). -/
def State.q16 (s : State) : Q16 → Word
  | .bc => s.bc
  | .de => s.de
  | .hl => s.hl
  | .af => s.af

/-- `rp2[p] <- v` (R24). -/
def State.setQ16 (s : State) (p : Q16) (v : Word) : State :=
  match p with
  | .bc => s.setBc v
  | .de => s.setDe v
  | .hl => s.setHl v
  | .af => s.setAf v

/-- `Push16` (spec/41_load16.md R131): the high byte first, at the higher address. -/
def push16 (s : State) (v : Word) : State :=
  let s1 := busWrite (s.setSp (s.sp - 1)) (s.sp - 1) (hiByte v)
  busWrite (s1.setSp (s.sp - 2)) (s.sp - 2) (loByte v)

/-- The word `Pop16` reads (R132): low byte at SP, high byte at SP + 1. -/
def popWord (s : State) : Word := mkWord (busRead s (s.sp + 1)) (busRead s s.sp)

/-- The state after `Pop16` (R132). -/
def popSp (s : State) : State := s.setSp (s.sp + 2)

/-- The requests that are enabled: `IE & IF & 0x1F` (spec/60_exceptions.md R289). -/
def Interrupts.enabledRequests (i : Interrupts) : BitVec 5 := i.ie.extractLsb' 0 5 &&& i.ifl

/-- `pending` (R289): it does not read IME. -/
def pending (s : State) : Bool := s.intr.enabledRequests != 0

/-- `highest` (R289): the smallest k with IE[k] and IF[k] set. 4 is the one left when the others are not. -/
def highest (s : State) : Nat :=
  let r := s.intr.enabledRequests
  if r.getLsbD 0 then 0
  else if r.getLsbD 1 then 1
  else if r.getLsbD 2 then 2
  else if r.getLsbD 3 then 3
  else 4

/-- The vector of source k (R38, R293). -/
def vectorOf (k : Nat) : Word := BitVec.ofNat 16 (0x40 + 8 * k)

/-- Clear one request bit (R293). -/
def clearRequest (ifl : BitVec 5) (k : Nat) : BitVec 5 := ifl &&& ~~~(1#5 <<< k)

/-- TAKING AN INTERRUPT, the one exception entry of the engine: `dispatch` (R293). The source is chosen first; IME and
`ei_pending` are cleared, then the request bit; pc is pushed and the vector entered. Only pc is saved (R294). -/
def takeInterrupt (s : State) : State :=
  let s1 := s.mapIntr fun i =>
    { i with ime := false, eiPending := false, ifl := clearRequest i.ifl (highest s) }
  (push16 s1 s.pc).setPc (vectorOf (highest s))

/-- The return from a subroutine: `pc <- Pop16()` (spec/45_control_transfer.md R247). -/
def returnTo (s : State) : State := (popSp s).setPc (popWord s)

/-- THE RETURN FROM AN INTERRUPT: pop pc, set IME at once, drop a pending EI (R252). -/
def returnFromInterrupt (s : State) : State :=
  (returnTo s).mapIntr fun i => { i with ime := true, eiPending := false }

end Sys2Proof.Machine
end

