-- ==== Sys2Proof/Machine/Operands.lean ====
section
/-! DEFINITION. Every operand form: register, byte at HL, immediate, pair address, high page, displacement. -/

namespace Sys2Proof.Machine

/-- Read a register or the byte at HL (spec/10_state.md R23; spec/42_alu8.md R140). -/
def State.readLoc (s : State) : Loc8 → Byte
  | .reg r => s.r8 r
  | .atHl => busRead s s.hl

/-- Write a register or the byte at HL (R23). -/
def State.writeLoc (s : State) (l : Loc8) (v : Byte) : State :=
  match l with
  | .reg r => s.setR8 r v
  | .atHl => busWrite s s.hl v

/-- The high-page address 0xFF00 + n (spec/40_load8.md R112 to R115). -/
def highPage (n : Byte) : Word := 0xFF00 + n.setWidth 16

/-- `sext_16` of a displacement byte (spec/00_scope.md R9; spec/30_encoding.md R81). -/
def sext16 (e : Byte) : Word := e.signExtend 16

/-- `signed8` of a byte (R9). -/
def signed8 (e : Byte) : Int := e.toInt

/-- The target of RST t: 8 * y (R82). -/
def rstTarget (y : BitVec 3) : Word := BitVec.ofNat 16 (8 * y.toNat)

end Sys2Proof.Machine
end

