-- ==== Sys2Proof/Machine/Flags.lean ====
section
/-! DEFINITION. The flags and every flag computation (spec/10_state.md R25, R26; spec/42_alu8.md R141 to R143;
spec/43_alu16.md R190, R191; spec/44_rotate_shift_bit.md R200 to R222). Arithmetic is exact on Nat and narrowed once
(spec/00_scope.md R9). -/

namespace Sys2Proof.Machine

/-- The F byte of four flags: Z, N, H, C in bits 7 to 4, bits 3..0 zero (R25). -/
def packF (z n h c : Bool) : Byte :=
  BitVec.ofBool z ++ BitVec.ofBool n ++ BitVec.ofBool h ++ BitVec.ofBool c ++ 0#4

/-- F.Z (R25). -/
def State.flagZ (s : State) : Bool := s.regs.f.getLsbD 7

/-- F.N (R25). -/
def State.flagN (s : State) : Bool := s.regs.f.getLsbD 6

/-- F.H (R25). -/
def State.flagH (s : State) : Bool := s.regs.f.getLsbD 5

/-- F.C (R25). -/
def State.flagC (s : State) : Bool := s.regs.f.getLsbD 4

/-- Write all four flags. -/
def State.setFlags (s : State) (z n h c : Bool) : State := s.setF (packF z n h c)

/-- Does a condition hold (spec/30_encoding.md R80)? -/
def State.cond (s : State) : Cond → Bool
  | .nz => !s.flagZ
  | .z => s.flagZ
  | .nc => !s.flagC
  | .c => s.flagC

/-- A result byte with its four flags. -/
structure Alu where
  res : Byte
  z : Bool
  n : Bool
  h : Bool
  c : Bool
  deriving DecidableEq, Repr

/-- The F byte of an ALU result. -/
def Alu.f (o : Alu) : Byte := packF o.z o.n o.h o.c

/-- `add8` (R141). -/
def add8 (a b : Byte) (cin : Bool) : Alu :=
  let res := BitVec.ofNat 8 (a.toNat + b.toNat + cin.toNat)
  { res := res
    z := res = 0
    n := false
    h := 0x0F < a.toNat % 16 + b.toNat % 16 + cin.toNat
    c := 0xFF < a.toNat + b.toNat + cin.toNat }

/-- `sub8` (R142). -/
def sub8 (a b : Byte) (cin : Bool) : Alu :=
  let res := BitVec.ofInt 8 (a.toNat - b.toNat - cin.toNat)
  { res := res
    z := res = 0
    n := true
    h := a.toNat % 16 < b.toNat % 16 + cin.toNat
    c := a.toNat < b.toNat + cin.toNat }

/-- `and8` (R143): H is set, C cleared. -/
def and8 (a b : Byte) : Alu := { res := a &&& b, z := a &&& b = 0, n := false, h := true, c := false }

/-- `xor8` (R143). -/
def xor8 (a b : Byte) : Alu := { res := a ^^^ b, z := a ^^^ b = 0, n := false, h := false, c := false }

/-- `or8` (R143). -/
def or8 (a b : Byte) : Alu := { res := a ||| b, z := a ||| b = 0, n := false, h := false, c := false }

/-- The result and flags of an 8-bit INC; C is the one given (R168). -/
def inc8 (v : Byte) (c : Bool) : Alu :=
  { res := v + 1, z := v + 1 = 0, n := false, h := v.toNat % 16 = 15, c := c }

/-- The result and flags of an 8-bit DEC; C is the one given (R170). -/
def dec8 (v : Byte) (c : Bool) : Alu :=
  { res := v - 1, z := v - 1 = 0, n := true, h := v.toNat % 16 = 0, c := c }

/-- DAA after an addition (R172). -/
def daaAdd (a : Byte) (h c : Bool) : Alu :=
  let hi := c || decide (0x99 < a.toNat)
  let a1 := if hi then a + 0x60 else a
  let a2 := if h || decide (9 < a.toNat % 16) then a1 + 0x06 else a1
  { res := a2, z := a2 = 0, n := false, h := false, c := hi }

/-- DAA after a subtraction (R172): C stays as it was. -/
def daaSub (a : Byte) (h c : Bool) : Alu :=
  let a1 := if c then a - 0x60 else a
  let a2 := if h then a1 - 0x06 else a1
  { res := a2, z := a2 = 0, n := true, h := false, c := c }

/-- DAA (R172): N selects the branch and is kept. -/
def daa8 (a : Byte) (n h c : Bool) : Alu := if n then daaSub a h c else daaAdd a h c

/-- `spOffset` (R190): the 16-bit sum. -/
def spOffset (sp : Word) (e : Byte) : Word := sp + sext16 e

/-- `spOffset`'s h: the unsigned carry out of bit 3 of the low byte (R190). -/
def spOffsetH (sp : Word) (e : Byte) : Bool := 0x0F < sp.toNat % 16 + e.toNat % 16

/-- `spOffset`'s c: the unsigned carry out of bit 7 of the low byte (R190). -/
def spOffsetC (sp : Word) (e : Byte) : Bool := 0xFF < sp.toNat % 256 + e.toNat

/-- ADD HL,rr's H: the carry out of bit 11 (R191). -/
def addHlH (hl v : Word) : Bool := 0x0FFF < hl.toNat % 0x1000 + v.toNat % 0x1000

/-- ADD HL,rr's C: the carry out of bit 15 (R191). -/
def addHlC (hl v : Word) : Bool := 0xFFFF < hl.toNat + v.toNat

/-- The eight rotates and shifts of the CB page, by the field y (spec/30_encoding.md R83). -/
inductive Rot where
  | rlc
  | rrc
  | rl
  | rr
  | sla
  | sra
  | swap
  | srl
  deriving DecidableEq, Repr

/-- The field y of a rotate or shift (R83). -/
def Rot.code : Rot → BitVec 3
  | .rlc => 0
  | .rrc => 1
  | .rl => 2
  | .rr => 3
  | .sla => 4
  | .sra => 5
  | .swap => 6
  | .srl => 7

/-- The rotate or shift of a field y (R83). -/
def Rot.ofCode (y : BitVec 3) : Rot :=
  match y.toNat with
  | 0 => .rlc
  | 1 => .rrc
  | 2 => .rl
  | 3 => .rr
  | 4 => .sla
  | 5 => .sra
  | 6 => .swap
  | _ => .srl

/-- The result of a rotate or shift, with F.C given (R205, R207, R209, R211, R213, R215, R217, R219). -/
def Rot.result (op : Rot) (v : Byte) (cin : Bool) : Byte :=
  match op with
  | .rlc => v <<< 1 ||| (BitVec.ofBool (v.getLsbD 7)).setWidth 8
  | .rrc => v >>> 1 ||| (BitVec.ofBool (v.getLsbD 0)).setWidth 8 <<< 7
  | .rl => v <<< 1 ||| (BitVec.ofBool cin).setWidth 8
  | .rr => v >>> 1 ||| (BitVec.ofBool cin).setWidth 8 <<< 7
  | .sla => v <<< 1
  | .sra => v >>> 1 ||| v &&& 0x80
  | .swap => v <<< 4 ||| v >>> 4
  | .srl => v >>> 1

/-- The bit a rotate or shift puts in C; SWAP clears it (R217). -/
def Rot.carry (op : Rot) (v : Byte) : Bool :=
  match op with
  | .rlc => v.getLsbD 7
  | .rrc => v.getLsbD 0
  | .rl => v.getLsbD 7
  | .rr => v.getLsbD 0
  | .sla => v.getLsbD 7
  | .sra => v.getLsbD 0
  | .swap => false
  | .srl => v.getLsbD 0

/-- A rotate or shift with its flags: Z of the result, N = 0, H = 0 (R205 to R220). -/
def Rot.alu (op : Rot) (v : Byte) (cin : Bool) : Alu :=
  { res := op.result v cin, z := op.result v cin = 0, n := false, h := false, c := op.carry v }

/-- The mask of bit b (R223, R225). -/
def bitMask (b : BitVec 3) : Byte := 1 <<< b.toNat

end Sys2Proof.Machine
end

