-- ==== Sys2Proof/Machine/Alu16.lean ====
section
/-! DEFINITION. The 16-bit arithmetic (spec/43_alu16.md R190 to R195). -/

namespace Sys2Proof.Machine

/-- ADD HL,rr (R191): the pair is read before HL is written; Z is kept. -/
def addHlStep (p : R16) (s : State) : State :=
  (s.setHl (s.hl + s.r16 p)).setFlags s.flagZ false (addHlH s.hl (s.r16 p)) (addHlC s.hl (s.r16 p))

/-- ADD SP,e (R192). -/
def addSpStep (e : Byte) (s : State) : State :=
  (s.setSp (spOffset s.sp e)).setFlags false false (spOffsetH s.sp e) (spOffsetC s.sp e)

/-- INC BC (R193). -/
def execIncBc (s : State) : Result := .next (s.setR16 .bc (s.r16 .bc + 1))

/-- ADD HL,BC (R191). -/
def execAddHlBc (s : State) : Result := .next (addHlStep .bc s)

/-- DEC BC (R194). -/
def execDecBc (s : State) : Result := .next (s.setR16 .bc (s.r16 .bc - 1))

/-- INC DE (R193). -/
def execIncDe (s : State) : Result := .next (s.setR16 .de (s.r16 .de + 1))

/-- ADD HL,DE (R191). -/
def execAddHlDe (s : State) : Result := .next (addHlStep .de s)

/-- DEC DE (R194). -/
def execDecDe (s : State) : Result := .next (s.setR16 .de (s.r16 .de - 1))

/-- INC HL (R193). -/
def execIncHl (s : State) : Result := .next (s.setR16 .hl (s.r16 .hl + 1))

/-- ADD HL,HL (R191). -/
def execAddHlHl (s : State) : Result := .next (addHlStep .hl s)

/-- DEC HL (R194). -/
def execDecHl (s : State) : Result := .next (s.setR16 .hl (s.r16 .hl - 1))

/-- INC SP (R193). -/
def execIncSp (s : State) : Result := .next (s.setR16 .sp (s.r16 .sp + 1))

/-- ADD HL,SP (R191). -/
def execAddHlSp (s : State) : Result := .next (addHlStep .sp s)

/-- DEC SP (R194). -/
def execDecSp (s : State) : Result := .next (s.setR16 .sp (s.r16 .sp - 1))

/-- ADD SP,e (R192). -/
def execAddSpE (e : Byte) (s : State) : Result := .next (addSpStep e s)

end Sys2Proof.Machine
end

