-- ==== Sys2Proof/Machine/Alu8.lean ====
section
/-! DEFINITION. The 8-bit arithmetic and logic (spec/42_alu8.md R140 to R175). -/

namespace Sys2Proof.Machine

/-- The eight ALU operations, by the field y (R140). -/
inductive AluOp where
  | add
  | adc
  | sub
  | sbc
  | and
  | xor
  | or
  | cp
  deriving DecidableEq, Repr

/-- The field y of an ALU operation (R140; spec/30_encoding.md R76). -/
def AluOp.code : AluOp → BitVec 3
  | .add => 0
  | .adc => 1
  | .sub => 2
  | .sbc => 3
  | .and => 4
  | .xor => 5
  | .or => 6
  | .cp => 7

/-- What an operation computes of A, the operand and F.C (R144 to R167). -/
def AluOp.eval (op : AluOp) (a v : Byte) (cin : Bool) : Alu :=
  match op with
  | .add => add8 a v false
  | .adc => add8 a v cin
  | .sub => sub8 a v false
  | .sbc => sub8 a v cin
  | .and => and8 a v
  | .xor => xor8 a v
  | .or => or8 a v
  | .cp => sub8 a v false

/-- An ALU instruction on the operand v (R140): F is written whole, and A but by CP. -/
def aluStep (op : AluOp) (v : Byte) (s : State) : State :=
  let o := op.eval s.acc v s.flagC
  match op with
  | .cp => s.setF o.f
  | _ => (s.setAcc o.res).setF o.f

/-- INC r and INC (HL) (R168, R169): one read, one write, C kept. -/
def incLoc (l : Loc8) (s : State) : State :=
  let o := inc8 (s.readLoc l) s.flagC
  (s.writeLoc l o.res).setF o.f

/-- DEC r and DEC (HL) (R170, R171): one read, one write, C kept. -/
def decLoc (l : Loc8) (s : State) : State :=
  let o := dec8 (s.readLoc l) s.flagC
  (s.writeLoc l o.res).setF o.f

/-- DAA (R172): N is kept. -/
def daaStep (s : State) : State :=
  let o := daa8 s.acc s.flagN s.flagH s.flagC
  (s.setAcc o.res).setFlags o.z s.flagN o.h o.c

/-- CPL (R173). -/
def cplStep (s : State) : State := (s.setAcc (~~~s.acc)).setFlags s.flagZ true true s.flagC

/-- SCF (R174). -/
def scfStep (s : State) : State := s.setFlags s.flagZ false false true

/-- CCF (R175). -/
def ccfStep (s : State) : State := s.setFlags s.flagZ false false (!s.flagC)

/-- INC B (R168). -/
def execIncB (s : State) : Result := .next (incLoc (.reg .b) s)

/-- DEC B (R170). -/
def execDecB (s : State) : Result := .next (decLoc (.reg .b) s)

/-- INC C (R168). -/
def execIncC (s : State) : Result := .next (incLoc (.reg .c) s)

/-- DEC C (R170). -/
def execDecC (s : State) : Result := .next (decLoc (.reg .c) s)

/-- INC D (R168). -/
def execIncD (s : State) : Result := .next (incLoc (.reg .d) s)

/-- DEC D (R170). -/
def execDecD (s : State) : Result := .next (decLoc (.reg .d) s)

/-- INC E (R168). -/
def execIncE (s : State) : Result := .next (incLoc (.reg .e) s)

/-- DEC E (R170). -/
def execDecE (s : State) : Result := .next (decLoc (.reg .e) s)

/-- INC H (R168). -/
def execIncH (s : State) : Result := .next (incLoc (.reg .h) s)

/-- DEC H (R170). -/
def execDecH (s : State) : Result := .next (decLoc (.reg .h) s)

/-- DAA (R172). -/
def execDaa (s : State) : Result := .next (daaStep s)

/-- INC L (R168). -/
def execIncL (s : State) : Result := .next (incLoc (.reg .l) s)

/-- DEC L (R170). -/
def execDecL (s : State) : Result := .next (decLoc (.reg .l) s)

/-- CPL (R173). -/
def execCpl (s : State) : Result := .next (cplStep s)

/-- INC (HL) (R169). -/
def execIncAtHl (s : State) : Result := .next (incLoc .atHl s)

/-- DEC (HL) (R171). -/
def execDecAtHl (s : State) : Result := .next (decLoc .atHl s)

/-- SCF (R174). -/
def execScf (s : State) : Result := .next (scfStep s)

/-- INC A (R168). -/
def execIncA (s : State) : Result := .next (incLoc (.reg .a) s)

/-- DEC A (R170). -/
def execDecA (s : State) : Result := .next (decLoc (.reg .a) s)

/-- CCF (R175). -/
def execCcf (s : State) : Result := .next (ccfStep s)

/-- ADD A,B (R144). -/
def execAddAB (s : State) : Result := .next (aluStep .add (s.readLoc (.reg .b)) s)

/-- ADD A,C (R144). -/
def execAddAC (s : State) : Result := .next (aluStep .add (s.readLoc (.reg .c)) s)

/-- ADD A,D (R144). -/
def execAddAD (s : State) : Result := .next (aluStep .add (s.readLoc (.reg .d)) s)

/-- ADD A,E (R144). -/
def execAddAE (s : State) : Result := .next (aluStep .add (s.readLoc (.reg .e)) s)

/-- ADD A,H (R144). -/
def execAddAH (s : State) : Result := .next (aluStep .add (s.readLoc (.reg .h)) s)

/-- ADD A,L (R144). -/
def execAddAL (s : State) : Result := .next (aluStep .add (s.readLoc (.reg .l)) s)

/-- ADD A,(HL) (R145). -/
def execAddAAtHl (s : State) : Result := .next (aluStep .add (s.readLoc .atHl) s)

/-- ADD A,A (R144). -/
def execAddAA (s : State) : Result := .next (aluStep .add (s.readLoc (.reg .a)) s)

/-- ADC A,B (R147). -/
def execAdcAB (s : State) : Result := .next (aluStep .adc (s.readLoc (.reg .b)) s)

/-- ADC A,C (R147). -/
def execAdcAC (s : State) : Result := .next (aluStep .adc (s.readLoc (.reg .c)) s)

/-- ADC A,D (R147). -/
def execAdcAD (s : State) : Result := .next (aluStep .adc (s.readLoc (.reg .d)) s)

/-- ADC A,E (R147). -/
def execAdcAE (s : State) : Result := .next (aluStep .adc (s.readLoc (.reg .e)) s)

/-- ADC A,H (R147). -/
def execAdcAH (s : State) : Result := .next (aluStep .adc (s.readLoc (.reg .h)) s)

/-- ADC A,L (R147). -/
def execAdcAL (s : State) : Result := .next (aluStep .adc (s.readLoc (.reg .l)) s)

/-- ADC A,(HL) (R148). -/
def execAdcAAtHl (s : State) : Result := .next (aluStep .adc (s.readLoc .atHl) s)

/-- ADC A,A (R147). -/
def execAdcAA (s : State) : Result := .next (aluStep .adc (s.readLoc (.reg .a)) s)

/-- SUB B (R150). -/
def execSubB (s : State) : Result := .next (aluStep .sub (s.readLoc (.reg .b)) s)

/-- SUB C (R150). -/
def execSubC (s : State) : Result := .next (aluStep .sub (s.readLoc (.reg .c)) s)

/-- SUB D (R150). -/
def execSubD (s : State) : Result := .next (aluStep .sub (s.readLoc (.reg .d)) s)

/-- SUB E (R150). -/
def execSubE (s : State) : Result := .next (aluStep .sub (s.readLoc (.reg .e)) s)

/-- SUB H (R150). -/
def execSubH (s : State) : Result := .next (aluStep .sub (s.readLoc (.reg .h)) s)

/-- SUB L (R150). -/
def execSubL (s : State) : Result := .next (aluStep .sub (s.readLoc (.reg .l)) s)

/-- SUB (HL) (R151). -/
def execSubAtHl (s : State) : Result := .next (aluStep .sub (s.readLoc .atHl) s)

/-- SUB A (R150). -/
def execSubA (s : State) : Result := .next (aluStep .sub (s.readLoc (.reg .a)) s)

/-- SBC A,B (R153). -/
def execSbcAB (s : State) : Result := .next (aluStep .sbc (s.readLoc (.reg .b)) s)

/-- SBC A,C (R153). -/
def execSbcAC (s : State) : Result := .next (aluStep .sbc (s.readLoc (.reg .c)) s)

/-- SBC A,D (R153). -/
def execSbcAD (s : State) : Result := .next (aluStep .sbc (s.readLoc (.reg .d)) s)

/-- SBC A,E (R153). -/
def execSbcAE (s : State) : Result := .next (aluStep .sbc (s.readLoc (.reg .e)) s)

/-- SBC A,H (R153). -/
def execSbcAH (s : State) : Result := .next (aluStep .sbc (s.readLoc (.reg .h)) s)

/-- SBC A,L (R153). -/
def execSbcAL (s : State) : Result := .next (aluStep .sbc (s.readLoc (.reg .l)) s)

/-- SBC A,(HL) (R154). -/
def execSbcAAtHl (s : State) : Result := .next (aluStep .sbc (s.readLoc .atHl) s)

/-- SBC A,A (R153). -/
def execSbcAA (s : State) : Result := .next (aluStep .sbc (s.readLoc (.reg .a)) s)

/-- AND B (R156). -/
def execAndB (s : State) : Result := .next (aluStep .and (s.readLoc (.reg .b)) s)

/-- AND C (R156). -/
def execAndC (s : State) : Result := .next (aluStep .and (s.readLoc (.reg .c)) s)

/-- AND D (R156). -/
def execAndD (s : State) : Result := .next (aluStep .and (s.readLoc (.reg .d)) s)

/-- AND E (R156). -/
def execAndE (s : State) : Result := .next (aluStep .and (s.readLoc (.reg .e)) s)

/-- AND H (R156). -/
def execAndH (s : State) : Result := .next (aluStep .and (s.readLoc (.reg .h)) s)

/-- AND L (R156). -/
def execAndL (s : State) : Result := .next (aluStep .and (s.readLoc (.reg .l)) s)

/-- AND (HL) (R157). -/
def execAndAtHl (s : State) : Result := .next (aluStep .and (s.readLoc .atHl) s)

/-- AND A (R156). -/
def execAndA (s : State) : Result := .next (aluStep .and (s.readLoc (.reg .a)) s)

/-- XOR B (R159). -/
def execXorB (s : State) : Result := .next (aluStep .xor (s.readLoc (.reg .b)) s)

/-- XOR C (R159). -/
def execXorC (s : State) : Result := .next (aluStep .xor (s.readLoc (.reg .c)) s)

/-- XOR D (R159). -/
def execXorD (s : State) : Result := .next (aluStep .xor (s.readLoc (.reg .d)) s)

/-- XOR E (R159). -/
def execXorE (s : State) : Result := .next (aluStep .xor (s.readLoc (.reg .e)) s)

/-- XOR H (R159). -/
def execXorH (s : State) : Result := .next (aluStep .xor (s.readLoc (.reg .h)) s)

/-- XOR L (R159). -/
def execXorL (s : State) : Result := .next (aluStep .xor (s.readLoc (.reg .l)) s)

/-- XOR (HL) (R160). -/
def execXorAtHl (s : State) : Result := .next (aluStep .xor (s.readLoc .atHl) s)

/-- XOR A (R159). -/
def execXorA (s : State) : Result := .next (aluStep .xor (s.readLoc (.reg .a)) s)

/-- OR B (R162). -/
def execOrB (s : State) : Result := .next (aluStep .or (s.readLoc (.reg .b)) s)

/-- OR C (R162). -/
def execOrC (s : State) : Result := .next (aluStep .or (s.readLoc (.reg .c)) s)

/-- OR D (R162). -/
def execOrD (s : State) : Result := .next (aluStep .or (s.readLoc (.reg .d)) s)

/-- OR E (R162). -/
def execOrE (s : State) : Result := .next (aluStep .or (s.readLoc (.reg .e)) s)

/-- OR H (R162). -/
def execOrH (s : State) : Result := .next (aluStep .or (s.readLoc (.reg .h)) s)

/-- OR L (R162). -/
def execOrL (s : State) : Result := .next (aluStep .or (s.readLoc (.reg .l)) s)

/-- OR (HL) (R163). -/
def execOrAtHl (s : State) : Result := .next (aluStep .or (s.readLoc .atHl) s)

/-- OR A (R162). -/
def execOrA (s : State) : Result := .next (aluStep .or (s.readLoc (.reg .a)) s)

/-- CP B (R165). -/
def execCpB (s : State) : Result := .next (aluStep .cp (s.readLoc (.reg .b)) s)

/-- CP C (R165). -/
def execCpC (s : State) : Result := .next (aluStep .cp (s.readLoc (.reg .c)) s)

/-- CP D (R165). -/
def execCpD (s : State) : Result := .next (aluStep .cp (s.readLoc (.reg .d)) s)

/-- CP E (R165). -/
def execCpE (s : State) : Result := .next (aluStep .cp (s.readLoc (.reg .e)) s)

/-- CP H (R165). -/
def execCpH (s : State) : Result := .next (aluStep .cp (s.readLoc (.reg .h)) s)

/-- CP L (R165). -/
def execCpL (s : State) : Result := .next (aluStep .cp (s.readLoc (.reg .l)) s)

/-- CP (HL) (R166). -/
def execCpAtHl (s : State) : Result := .next (aluStep .cp (s.readLoc .atHl) s)

/-- CP A (R165). -/
def execCpA (s : State) : Result := .next (aluStep .cp (s.readLoc (.reg .a)) s)

/-- ADD A,n (R146). -/
def execAddAN (n : Byte) (s : State) : Result := .next (aluStep .add n s)

/-- ADC A,n (R149). -/
def execAdcAN (n : Byte) (s : State) : Result := .next (aluStep .adc n s)

/-- SUB n (R152). -/
def execSubN (n : Byte) (s : State) : Result := .next (aluStep .sub n s)

/-- SBC A,n (R155). -/
def execSbcAN (n : Byte) (s : State) : Result := .next (aluStep .sbc n s)

/-- AND n (R158). -/
def execAndN (n : Byte) (s : State) : Result := .next (aluStep .and n s)

/-- XOR n (R161). -/
def execXorN (n : Byte) (s : State) : Result := .next (aluStep .xor n s)

/-- OR n (R164). -/
def execOrN (n : Byte) (s : State) : Result := .next (aluStep .or n s)

/-- CP n (R167). -/
def execCpN (n : Byte) (s : State) : Result := .next (aluStep .cp n s)

end Sys2Proof.Machine
end

