-- ==== Sys2Proof/Machine/Control.lean ====
section
/-! DEFINITION. Control transfer (spec/45_control_transfer.md R240 to R253). A meaning starts with pc after the whole
instruction (R249, R250). -/

namespace Sys2Proof.Machine

/-- A conditional transfer: taken when the condition holds, else the state as it is (R249). -/
def whenCond (cc : Cond) (taken s : State) : State := if s.cond cc then taken else s

/-- JR (R243): relative to the next instruction. -/
def jumpRel (e : Byte) (s : State) : State := s.setPc (s.pc + sext16 e)

/-- CALL and RST (R245, R253): push the address of the next instruction and jump. -/
def callTo (a : Word) (s : State) : State := (push16 s s.pc).setPc a

/-- JR e (R243). -/
def execJrE (e : Byte) (s : State) : Result := .next (jumpRel e s)

/-- JR NZ,e (R244). -/
def execJrNzE (e : Byte) (s : State) : Result := .next (whenCond .nz (jumpRel e s) s)

/-- JR Z,e (R244). -/
def execJrZE (e : Byte) (s : State) : Result := .next (whenCond .z (jumpRel e s) s)

/-- JR NC,e (R244). -/
def execJrNcE (e : Byte) (s : State) : Result := .next (whenCond .nc (jumpRel e s) s)

/-- JR C,e (R244). -/
def execJrCE (e : Byte) (s : State) : Result := .next (whenCond .c (jumpRel e s) s)

/-- RET NZ (R248). -/
def execRetNz (s : State) : Result := .next (whenCond .nz (returnTo s) s)

/-- JP NZ,nn (R241). -/
def execJpNzNn (nn : Word) (s : State) : Result := .next (whenCond .nz (s.setPc nn) s)

/-- JP nn (R240). -/
def execJpNn (nn : Word) (s : State) : Result := .next (s.setPc nn)

/-- CALL NZ,nn (R246). -/
def execCallNzNn (nn : Word) (s : State) : Result := .next (whenCond .nz (callTo nn s) s)

/-- RST 0x00 (R253). -/
def execRst00 (s : State) : Result := .next (callTo (rstTarget 0) s)

/-- RET Z (R248). -/
def execRetZ (s : State) : Result := .next (whenCond .z (returnTo s) s)

/-- RET (R247). -/
def execRet (s : State) : Result := .next (returnTo s)

/-- JP Z,nn (R241). -/
def execJpZNn (nn : Word) (s : State) : Result := .next (whenCond .z (s.setPc nn) s)

/-- CALL Z,nn (R246). -/
def execCallZNn (nn : Word) (s : State) : Result := .next (whenCond .z (callTo nn s) s)

/-- CALL nn (R245). -/
def execCallNn (nn : Word) (s : State) : Result := .next (callTo nn s)

/-- RST 0x08 (R253). -/
def execRst08 (s : State) : Result := .next (callTo (rstTarget 1) s)

/-- RET NC (R248). -/
def execRetNc (s : State) : Result := .next (whenCond .nc (returnTo s) s)

/-- JP NC,nn (R241). -/
def execJpNcNn (nn : Word) (s : State) : Result := .next (whenCond .nc (s.setPc nn) s)

/-- CALL NC,nn (R246). -/
def execCallNcNn (nn : Word) (s : State) : Result := .next (whenCond .nc (callTo nn s) s)

/-- RST 0x10 (R253). -/
def execRst10 (s : State) : Result := .next (callTo (rstTarget 2) s)

/-- RET C (R248). -/
def execRetC (s : State) : Result := .next (whenCond .c (returnTo s) s)

/-- RETI (R252). -/
def execReti (s : State) : Result := .next (returnFromInterrupt s)

/-- JP C,nn (R241). -/
def execJpCNn (nn : Word) (s : State) : Result := .next (whenCond .c (s.setPc nn) s)

/-- CALL C,nn (R246). -/
def execCallCNn (nn : Word) (s : State) : Result := .next (whenCond .c (callTo nn s) s)

/-- RST 0x18 (R253). -/
def execRst18 (s : State) : Result := .next (callTo (rstTarget 3) s)

/-- RST 0x20 (R253). -/
def execRst20 (s : State) : Result := .next (callTo (rstTarget 4) s)

/-- JP HL (R242). -/
def execJpHl (s : State) : Result := .next (s.setPc s.hl)

/-- RST 0x28 (R253). -/
def execRst28 (s : State) : Result := .next (callTo (rstTarget 5) s)

/-- RST 0x30 (R253). -/
def execRst30 (s : State) : Result := .next (callTo (rstTarget 6) s)

/-- RST 0x38 (R253). -/
def execRst38 (s : State) : Result := .next (callTo (rstTarget 7) s)

end Sys2Proof.Machine
end

