-- ==== Sys2Proof/Machine/Load16.lean ====
section
/-! DEFINITION. The 16-bit loads, PUSH and POP (spec/41_load16.md R126 to R135). -/

namespace Sys2Proof.Machine

/-- LD rr,nn (R127). -/
def ldPair (p : R16) (nn : Word) (s : State) : State := s.setR16 p nn

/-- LD (nn),SP (R128): the low byte at nn, then the high byte at nn + 1. -/
def ldToSp (nn : Word) (s : State) : State :=
  busWrite (busWrite s nn (loByte s.sp)) (nn + 1) (hiByte s.sp)

/-- LD SP,HL (R129). -/
def ldSpFromHl (s : State) : State := s.setSp s.hl

/-- LD HL,SP+e (R130). -/
def ldHlFromSp (e : Byte) (s : State) : State :=
  (s.setHl (spOffset s.sp e)).setFlags false false (spOffsetH s.sp e) (spOffsetC s.sp e)

/-- POP qq and POP AF (R134, R135): AF takes only its flag bits. -/
def popPair (p : Q16) (s : State) : State := (popSp s).setQ16 p (popWord s)

/-- LD BC,nn (R127). -/
def execLdBcNn (nn : Word) (s : State) : Result := .next (ldPair .bc nn s)

/-- LD (nn),SP (R128). -/
def execLdAtNnSp (nn : Word) (s : State) : Result := .next (ldToSp nn s)

/-- LD DE,nn (R127). -/
def execLdDeNn (nn : Word) (s : State) : Result := .next (ldPair .de nn s)

/-- LD HL,nn (R127). -/
def execLdHlNn (nn : Word) (s : State) : Result := .next (ldPair .hl nn s)

/-- LD SP,nn (R127). -/
def execLdSpNn (nn : Word) (s : State) : Result := .next (ldPair .sp nn s)

/-- POP BC (R134). -/
def execPopBc (s : State) : Result := .next (popPair .bc s)

/-- PUSH BC (R133). -/
def execPushBc (s : State) : Result := .next (push16 s (s.q16 .bc))

/-- POP DE (R134). -/
def execPopDe (s : State) : Result := .next (popPair .de s)

/-- PUSH DE (R133). -/
def execPushDe (s : State) : Result := .next (push16 s (s.q16 .de))

/-- POP HL (R134). -/
def execPopHl (s : State) : Result := .next (popPair .hl s)

/-- PUSH HL (R133). -/
def execPushHl (s : State) : Result := .next (push16 s (s.q16 .hl))

/-- POP AF (R135). -/
def execPopAf (s : State) : Result := .next (popPair .af s)

/-- PUSH AF (R133). -/
def execPushAf (s : State) : Result := .next (push16 s (s.q16 .af))

/-- LD HL,SP+e (R130). -/
def execLdHlSpE (e : Byte) (s : State) : Result := .next (ldHlFromSp e s)

/-- LD SP,HL (R129). -/
def execLdSpHl (s : State) : Result := .next (ldSpFromHl s)

end Sys2Proof.Machine
end

