-- ==== Sys2Proof/Machine/Load8.lean ====
section
/-! DEFINITION. The 8-bit loads (spec/40_load8.md R100 to R119). None writes a flag or raises an exception (R111). -/

namespace Sys2Proof.Machine

/-- LD r,r' (R100). -/
def ldReg (dst src : R8) (s : State) : State := s.setR8 dst (s.r8 src)

/-- LD r,n (R101). -/
def ldImm (dst : R8) (n : Byte) (s : State) : State := s.setR8 dst n

/-- LD r,(HL) (R102): the address is read before half of HL is written. -/
def ldFromHl (dst : R8) (s : State) : State := s.setR8 dst (busRead s s.hl)

/-- LD (HL),r (R103). -/
def ldToHl (src : R8) (s : State) : State := busWrite s s.hl (s.r8 src)

/-- LD (HL),n (R104). -/
def ldToHlImm (n : Byte) (s : State) : State := busWrite s s.hl n

/-- A load of A from an address (R105, R106, R109, R112, R114). -/
def ldAccFrom (a : Word) (s : State) : State := s.setAcc (busRead s a)

/-- A store of A at an address (R107, R108, R110, R113, R115). -/
def ldAccTo (a : Word) (s : State) : State := busWrite s a s.acc

/-- The increment or decrement of HL after the access (R116 to R119). -/
def bumpHl (delta : Word) (s : State) : State := s.setHl (s.hl + delta)

/-- LD (BC),A (R107). -/
def execLdAtBcA (s : State) : Result := .next (ldAccTo s.bc s)

/-- LD B,n (R101). -/
def execLdBN (n : Byte) (s : State) : Result := .next (ldImm .b n s)

/-- LD A,(BC) (R105). -/
def execLdAAtBc (s : State) : Result := .next (ldAccFrom s.bc s)

/-- LD C,n (R101). -/
def execLdCN (n : Byte) (s : State) : Result := .next (ldImm .c n s)

/-- LD (DE),A (R108). -/
def execLdAtDeA (s : State) : Result := .next (ldAccTo s.de s)

/-- LD D,n (R101). -/
def execLdDN (n : Byte) (s : State) : Result := .next (ldImm .d n s)

/-- LD A,(DE) (R106). -/
def execLdAAtDe (s : State) : Result := .next (ldAccFrom s.de s)

/-- LD E,n (R101). -/
def execLdEN (n : Byte) (s : State) : Result := .next (ldImm .e n s)

/-- LD (HL+),A (R118). -/
def execLdAtHlIncA (s : State) : Result := .next (bumpHl 1 (ldAccTo s.hl s))

/-- LD H,n (R101). -/
def execLdHN (n : Byte) (s : State) : Result := .next (ldImm .h n s)

/-- LD A,(HL+) (R116). -/
def execLdAAtHlInc (s : State) : Result := .next (bumpHl 1 (ldAccFrom s.hl s))

/-- LD L,n (R101). -/
def execLdLN (n : Byte) (s : State) : Result := .next (ldImm .l n s)

/-- LD (HL-),A (R119). -/
def execLdAtHlDecA (s : State) : Result := .next (bumpHl (-1) (ldAccTo s.hl s))

/-- LD (HL),n (R104). -/
def execLdAtHlN (n : Byte) (s : State) : Result := .next (ldToHlImm n s)

/-- LD A,(HL-) (R117). -/
def execLdAAtHlDec (s : State) : Result := .next (bumpHl (-1) (ldAccFrom s.hl s))

/-- LD A,n (R101). -/
def execLdAN (n : Byte) (s : State) : Result := .next (ldImm .a n s)

/-- LD B,B (R100). -/
def execLdBB (s : State) : Result := .next (ldReg .b .b s)

/-- LD B,C (R100). -/
def execLdBC (s : State) : Result := .next (ldReg .b .c s)

/-- LD B,D (R100). -/
def execLdBD (s : State) : Result := .next (ldReg .b .d s)

/-- LD B,E (R100). -/
def execLdBE (s : State) : Result := .next (ldReg .b .e s)

/-- LD B,H (R100). -/
def execLdBH (s : State) : Result := .next (ldReg .b .h s)

/-- LD B,L (R100). -/
def execLdBL (s : State) : Result := .next (ldReg .b .l s)

/-- LD B,(HL) (R102). -/
def execLdBAtHl (s : State) : Result := .next (ldFromHl .b s)

/-- LD B,A (R100). -/
def execLdBA (s : State) : Result := .next (ldReg .b .a s)

/-- LD C,B (R100). -/
def execLdCB (s : State) : Result := .next (ldReg .c .b s)

/-- LD C,C (R100). -/
def execLdCC (s : State) : Result := .next (ldReg .c .c s)

/-- LD C,D (R100). -/
def execLdCD (s : State) : Result := .next (ldReg .c .d s)

/-- LD C,E (R100). -/
def execLdCE (s : State) : Result := .next (ldReg .c .e s)

/-- LD C,H (R100). -/
def execLdCH (s : State) : Result := .next (ldReg .c .h s)

/-- LD C,L (R100). -/
def execLdCL (s : State) : Result := .next (ldReg .c .l s)

/-- LD C,(HL) (R102). -/
def execLdCAtHl (s : State) : Result := .next (ldFromHl .c s)

/-- LD C,A (R100). -/
def execLdCA (s : State) : Result := .next (ldReg .c .a s)

/-- LD D,B (R100). -/
def execLdDB (s : State) : Result := .next (ldReg .d .b s)

/-- LD D,C (R100). -/
def execLdDC (s : State) : Result := .next (ldReg .d .c s)

/-- LD D,D (R100). -/
def execLdDD (s : State) : Result := .next (ldReg .d .d s)

/-- LD D,E (R100). -/
def execLdDE (s : State) : Result := .next (ldReg .d .e s)

/-- LD D,H (R100). -/
def execLdDH (s : State) : Result := .next (ldReg .d .h s)

/-- LD D,L (R100). -/
def execLdDL (s : State) : Result := .next (ldReg .d .l s)

/-- LD D,(HL) (R102). -/
def execLdDAtHl (s : State) : Result := .next (ldFromHl .d s)

/-- LD D,A (R100). -/
def execLdDA (s : State) : Result := .next (ldReg .d .a s)

/-- LD E,B (R100). -/
def execLdEB (s : State) : Result := .next (ldReg .e .b s)

/-- LD E,C (R100). -/
def execLdEC (s : State) : Result := .next (ldReg .e .c s)

/-- LD E,D (R100). -/
def execLdED (s : State) : Result := .next (ldReg .e .d s)

/-- LD E,E (R100). -/
def execLdEE (s : State) : Result := .next (ldReg .e .e s)

/-- LD E,H (R100). -/
def execLdEH (s : State) : Result := .next (ldReg .e .h s)

/-- LD E,L (R100). -/
def execLdEL (s : State) : Result := .next (ldReg .e .l s)

/-- LD E,(HL) (R102). -/
def execLdEAtHl (s : State) : Result := .next (ldFromHl .e s)

/-- LD E,A (R100). -/
def execLdEA (s : State) : Result := .next (ldReg .e .a s)

/-- LD H,B (R100). -/
def execLdHB (s : State) : Result := .next (ldReg .h .b s)

/-- LD H,C (R100). -/
def execLdHC (s : State) : Result := .next (ldReg .h .c s)

/-- LD H,D (R100). -/
def execLdHD (s : State) : Result := .next (ldReg .h .d s)

/-- LD H,E (R100). -/
def execLdHE (s : State) : Result := .next (ldReg .h .e s)

/-- LD H,H (R100). -/
def execLdHH (s : State) : Result := .next (ldReg .h .h s)

/-- LD H,L (R100). -/
def execLdHL (s : State) : Result := .next (ldReg .h .l s)

/-- LD H,(HL) (R102). -/
def execLdHAtHl (s : State) : Result := .next (ldFromHl .h s)

/-- LD H,A (R100). -/
def execLdHA (s : State) : Result := .next (ldReg .h .a s)

/-- LD L,B (R100). -/
def execLdLB (s : State) : Result := .next (ldReg .l .b s)

/-- LD L,C (R100). -/
def execLdLC (s : State) : Result := .next (ldReg .l .c s)

/-- LD L,D (R100). -/
def execLdLD (s : State) : Result := .next (ldReg .l .d s)

/-- LD L,E (R100). -/
def execLdLE (s : State) : Result := .next (ldReg .l .e s)

/-- LD L,H (R100). -/
def execLdLH (s : State) : Result := .next (ldReg .l .h s)

/-- LD L,L (R100). -/
def execLdLL (s : State) : Result := .next (ldReg .l .l s)

/-- LD L,(HL) (R102). -/
def execLdLAtHl (s : State) : Result := .next (ldFromHl .l s)

/-- LD L,A (R100). -/
def execLdLA (s : State) : Result := .next (ldReg .l .a s)

/-- LD (HL),B (R103). -/
def execLdAtHlB (s : State) : Result := .next (ldToHl .b s)

/-- LD (HL),C (R103). -/
def execLdAtHlC (s : State) : Result := .next (ldToHl .c s)

/-- LD (HL),D (R103). -/
def execLdAtHlD (s : State) : Result := .next (ldToHl .d s)

/-- LD (HL),E (R103). -/
def execLdAtHlE (s : State) : Result := .next (ldToHl .e s)

/-- LD (HL),H (R103). -/
def execLdAtHlH (s : State) : Result := .next (ldToHl .h s)

/-- LD (HL),L (R103). -/
def execLdAtHlL (s : State) : Result := .next (ldToHl .l s)

/-- LD (HL),A (R103). -/
def execLdAtHlA (s : State) : Result := .next (ldToHl .a s)

/-- LD A,B (R100). -/
def execLdAB (s : State) : Result := .next (ldReg .a .b s)

/-- LD A,C (R100). -/
def execLdAC (s : State) : Result := .next (ldReg .a .c s)

/-- LD A,D (R100). -/
def execLdAD (s : State) : Result := .next (ldReg .a .d s)

/-- LD A,E (R100). -/
def execLdAE (s : State) : Result := .next (ldReg .a .e s)

/-- LD A,H (R100). -/
def execLdAH (s : State) : Result := .next (ldReg .a .h s)

/-- LD A,L (R100). -/
def execLdAL (s : State) : Result := .next (ldReg .a .l s)

/-- LD A,(HL) (R102). -/
def execLdAAtHl (s : State) : Result := .next (ldFromHl .a s)

/-- LD A,A (R100). -/
def execLdAA (s : State) : Result := .next (ldReg .a .a s)

/-- LDH (n),A (R113). -/
def execLdhAtNA (n : Byte) (s : State) : Result := .next (ldAccTo (highPage n) s)

/-- LD (C),A (R115). -/
def execLdAtCA (s : State) : Result := .next (ldAccTo (highPage s.regs.c) s)

/-- LD (nn),A (R110). -/
def execLdAtNnA (nn : Word) (s : State) : Result := .next (ldAccTo nn s)

/-- LDH A,(n) (R112). -/
def execLdhAAtN (n : Byte) (s : State) : Result := .next (ldAccFrom (highPage n) s)

/-- LD A,(C) (R114). -/
def execLdAAtC (s : State) : Result := .next (ldAccFrom (highPage s.regs.c) s)

/-- LD A,(nn) (R109). -/
def execLdAAtNn (nn : Word) (s : State) : Result := .next (ldAccFrom nn s)

end Sys2Proof.Machine
end

