-- ==== Sys2Proof/Machine/Rotate.lean ====
section
/-! DEFINITION. The rotates and shifts (spec/44_rotate_shift_bit.md R200 to R220). -/

namespace Sys2Proof.Machine

/-- RLCA, RRCA, RLA, RRA (R200 to R203): as on the CB page, but Z is 0. -/
def rotAcc (op : Rot) (s : State) : State :=
  (s.setAcc (op.result s.acc s.flagC)).setFlags false false false (op.carry s.acc)

/-- A rotate or shift of the CB page (R204 to R220): one read, one write, then the flags. -/
def rotLoc (op : Rot) (l : Loc8) (s : State) : State :=
  let o := op.alu (s.readLoc l) s.flagC
  (s.writeLoc l o.res).setF o.f

/-- RLCA (R200). -/
def execRlca (s : State) : Result := .next (rotAcc .rlc s)

/-- RRCA (R201). -/
def execRrca (s : State) : Result := .next (rotAcc .rrc s)

/-- RLA (R202). -/
def execRla (s : State) : Result := .next (rotAcc .rl s)

/-- RRA (R203). -/
def execRra (s : State) : Result := .next (rotAcc .rr s)

/-- RLC B (R205). -/
def execRlcB (s : State) : Result := .next (rotLoc .rlc (.reg .b) s)

/-- RLC C (R205). -/
def execRlcC (s : State) : Result := .next (rotLoc .rlc (.reg .c) s)

/-- RLC D (R205). -/
def execRlcD (s : State) : Result := .next (rotLoc .rlc (.reg .d) s)

/-- RLC E (R205). -/
def execRlcE (s : State) : Result := .next (rotLoc .rlc (.reg .e) s)

/-- RLC H (R205). -/
def execRlcH (s : State) : Result := .next (rotLoc .rlc (.reg .h) s)

/-- RLC L (R205). -/
def execRlcL (s : State) : Result := .next (rotLoc .rlc (.reg .l) s)

/-- RLC (HL) (R206). -/
def execRlcAtHl (s : State) : Result := .next (rotLoc .rlc .atHl s)

/-- RLC A (R205). -/
def execRlcA (s : State) : Result := .next (rotLoc .rlc (.reg .a) s)

/-- RRC B (R207). -/
def execRrcB (s : State) : Result := .next (rotLoc .rrc (.reg .b) s)

/-- RRC C (R207). -/
def execRrcC (s : State) : Result := .next (rotLoc .rrc (.reg .c) s)

/-- RRC D (R207). -/
def execRrcD (s : State) : Result := .next (rotLoc .rrc (.reg .d) s)

/-- RRC E (R207). -/
def execRrcE (s : State) : Result := .next (rotLoc .rrc (.reg .e) s)

/-- RRC H (R207). -/
def execRrcH (s : State) : Result := .next (rotLoc .rrc (.reg .h) s)

/-- RRC L (R207). -/
def execRrcL (s : State) : Result := .next (rotLoc .rrc (.reg .l) s)

/-- RRC (HL) (R208). -/
def execRrcAtHl (s : State) : Result := .next (rotLoc .rrc .atHl s)

/-- RRC A (R207). -/
def execRrcA (s : State) : Result := .next (rotLoc .rrc (.reg .a) s)

/-- RL B (R209). -/
def execRlB (s : State) : Result := .next (rotLoc .rl (.reg .b) s)

/-- RL C (R209). -/
def execRlC (s : State) : Result := .next (rotLoc .rl (.reg .c) s)

/-- RL D (R209). -/
def execRlD (s : State) : Result := .next (rotLoc .rl (.reg .d) s)

/-- RL E (R209). -/
def execRlE (s : State) : Result := .next (rotLoc .rl (.reg .e) s)

/-- RL H (R209). -/
def execRlH (s : State) : Result := .next (rotLoc .rl (.reg .h) s)

/-- RL L (R209). -/
def execRlL (s : State) : Result := .next (rotLoc .rl (.reg .l) s)

/-- RL (HL) (R210). -/
def execRlAtHl (s : State) : Result := .next (rotLoc .rl .atHl s)

/-- RL A (R209). -/
def execRlA (s : State) : Result := .next (rotLoc .rl (.reg .a) s)

/-- RR B (R211). -/
def execRrB (s : State) : Result := .next (rotLoc .rr (.reg .b) s)

/-- RR C (R211). -/
def execRrC (s : State) : Result := .next (rotLoc .rr (.reg .c) s)

/-- RR D (R211). -/
def execRrD (s : State) : Result := .next (rotLoc .rr (.reg .d) s)

/-- RR E (R211). -/
def execRrE (s : State) : Result := .next (rotLoc .rr (.reg .e) s)

/-- RR H (R211). -/
def execRrH (s : State) : Result := .next (rotLoc .rr (.reg .h) s)

/-- RR L (R211). -/
def execRrL (s : State) : Result := .next (rotLoc .rr (.reg .l) s)

/-- RR (HL) (R212). -/
def execRrAtHl (s : State) : Result := .next (rotLoc .rr .atHl s)

/-- RR A (R211). -/
def execRrA (s : State) : Result := .next (rotLoc .rr (.reg .a) s)

/-- SLA B (R213). -/
def execSlaB (s : State) : Result := .next (rotLoc .sla (.reg .b) s)

/-- SLA C (R213). -/
def execSlaC (s : State) : Result := .next (rotLoc .sla (.reg .c) s)

/-- SLA D (R213). -/
def execSlaD (s : State) : Result := .next (rotLoc .sla (.reg .d) s)

/-- SLA E (R213). -/
def execSlaE (s : State) : Result := .next (rotLoc .sla (.reg .e) s)

/-- SLA H (R213). -/
def execSlaH (s : State) : Result := .next (rotLoc .sla (.reg .h) s)

/-- SLA L (R213). -/
def execSlaL (s : State) : Result := .next (rotLoc .sla (.reg .l) s)

/-- SLA (HL) (R214). -/
def execSlaAtHl (s : State) : Result := .next (rotLoc .sla .atHl s)

/-- SLA A (R213). -/
def execSlaA (s : State) : Result := .next (rotLoc .sla (.reg .a) s)

/-- SRA B (R215). -/
def execSraB (s : State) : Result := .next (rotLoc .sra (.reg .b) s)

/-- SRA C (R215). -/
def execSraC (s : State) : Result := .next (rotLoc .sra (.reg .c) s)

/-- SRA D (R215). -/
def execSraD (s : State) : Result := .next (rotLoc .sra (.reg .d) s)

/-- SRA E (R215). -/
def execSraE (s : State) : Result := .next (rotLoc .sra (.reg .e) s)

/-- SRA H (R215). -/
def execSraH (s : State) : Result := .next (rotLoc .sra (.reg .h) s)

/-- SRA L (R215). -/
def execSraL (s : State) : Result := .next (rotLoc .sra (.reg .l) s)

/-- SRA (HL) (R216). -/
def execSraAtHl (s : State) : Result := .next (rotLoc .sra .atHl s)

/-- SRA A (R215). -/
def execSraA (s : State) : Result := .next (rotLoc .sra (.reg .a) s)

/-- SWAP B (R217). -/
def execSwapB (s : State) : Result := .next (rotLoc .swap (.reg .b) s)

/-- SWAP C (R217). -/
def execSwapC (s : State) : Result := .next (rotLoc .swap (.reg .c) s)

/-- SWAP D (R217). -/
def execSwapD (s : State) : Result := .next (rotLoc .swap (.reg .d) s)

/-- SWAP E (R217). -/
def execSwapE (s : State) : Result := .next (rotLoc .swap (.reg .e) s)

/-- SWAP H (R217). -/
def execSwapH (s : State) : Result := .next (rotLoc .swap (.reg .h) s)

/-- SWAP L (R217). -/
def execSwapL (s : State) : Result := .next (rotLoc .swap (.reg .l) s)

/-- SWAP (HL) (R218). -/
def execSwapAtHl (s : State) : Result := .next (rotLoc .swap .atHl s)

/-- SWAP A (R217). -/
def execSwapA (s : State) : Result := .next (rotLoc .swap (.reg .a) s)

/-- SRL B (R219). -/
def execSrlB (s : State) : Result := .next (rotLoc .srl (.reg .b) s)

/-- SRL C (R219). -/
def execSrlC (s : State) : Result := .next (rotLoc .srl (.reg .c) s)

/-- SRL D (R219). -/
def execSrlD (s : State) : Result := .next (rotLoc .srl (.reg .d) s)

/-- SRL E (R219). -/
def execSrlE (s : State) : Result := .next (rotLoc .srl (.reg .e) s)

/-- SRL H (R219). -/
def execSrlH (s : State) : Result := .next (rotLoc .srl (.reg .h) s)

/-- SRL L (R219). -/
def execSrlL (s : State) : Result := .next (rotLoc .srl (.reg .l) s)

/-- SRL (HL) (R220). -/
def execSrlAtHl (s : State) : Result := .next (rotLoc .srl .atHl s)

/-- SRL A (R219). -/
def execSrlA (s : State) : Result := .next (rotLoc .srl (.reg .a) s)

end Sys2Proof.Machine
end

