-- ==== Sys2Proof/Machine/System.lean ====
section
/-! DEFINITION. CPU control, the illegal opcodes and the CB prefix (spec/46_cpu_control.md R260 to R267). -/

namespace Sys2Proof.Machine

/-- An illegal opcode (R261): pc has advanced past it, so the address recorded is pc - 1. -/
def illegalOpcode (op : Byte) (s : State) : Result := .fault (.illegalInstruction { opcode := op, pc := s.pc - 1 })

/-- HALT (R262). -/
def haltStep (s : State) : State :=
  if s.params.haltBug ∧ s.intr.ime = false ∧ pending s = true then { s with haltBugLatch := true }
  else { s with halted := true }

/-- STOP (R263): DIV is reset as by a DIV write (R315). -/
def stopStep (s : State) : State := { s.mapTimer Timer.resetDiv with stopped := true }

/-- DI (R265): at once. -/
def disableInterrupts (s : State) : State := s.mapIntr fun i => { i with ime := false, eiPending := false }

/-- EI (R266): IME follows one instruction later (R291). -/
def enableInterruptsLater (s : State) : State := s.mapIntr fun i => { i with eiPending := true }

/-- The CB-page instruction of a byte, by its fields x, y, z (R204, R267; spec/30_encoding.md R83). -/
def cbStep (o : Byte) (s : State) : State :=
  let y := o.extractLsb' 3 3
  let l := Loc8.ofCode (o.extractLsb' 0 3)
  match (o.extractLsb' 6 2).toNat with
  | 0 => rotLoc (Rot.ofCode y) l s
  | 1 => bitTest y l s
  | 2 => bitRes y l s
  | _ => bitSet y l s

/-- NOP (R260). -/
def execNop (s : State) : Result := .next (s)

/-- STOP (R263). -/
def execStop (_x : Byte) (s : State) : Result := .next (stopStep s)

/-- HALT (R262). -/
def execHalt (s : State) : Result := .next (haltStep s)

/-- PREFIX CB (R267). -/
def execPrefixCb (o : Byte) (s : State) : Result := .next (cbStep o s)

/-- ILLEGAL (R261). -/
def execIllegalD3 (s : State) : Result := illegalOpcode 0xD3 s

/-- ILLEGAL (R261). -/
def execIllegalDB (s : State) : Result := illegalOpcode 0xDB s

/-- ILLEGAL (R261). -/
def execIllegalDD (s : State) : Result := illegalOpcode 0xDD s

/-- ILLEGAL (R261). -/
def execIllegalE3 (s : State) : Result := illegalOpcode 0xE3 s

/-- ILLEGAL (R261). -/
def execIllegalE4 (s : State) : Result := illegalOpcode 0xE4 s

/-- ILLEGAL (R261). -/
def execIllegalEB (s : State) : Result := illegalOpcode 0xEB s

/-- ILLEGAL (R261). -/
def execIllegalEC (s : State) : Result := illegalOpcode 0xEC s

/-- ILLEGAL (R261). -/
def execIllegalED (s : State) : Result := illegalOpcode 0xED s

/-- DI (R265). -/
def execDi (s : State) : Result := .next (disableInterrupts s)

/-- ILLEGAL (R261). -/
def execIllegalF4 (s : State) : Result := illegalOpcode 0xF4 s

/-- EI (R266). -/
def execEi (s : State) : Result := .next (enableInterruptsLater s)

/-- ILLEGAL (R261). -/
def execIllegalFC (s : State) : Result := illegalOpcode 0xFC s

/-- ILLEGAL (R261). -/
def execIllegalFD (s : State) : Result := illegalOpcode 0xFD s

end Sys2Proof.Machine
end

