-- ==== Sys2Proof/Machine/Fetch.lean ====
section
/-! DEFINITION. The instruction boundary and the fetch (spec/60_exceptions.md R291; spec/30_encoding.md R86). -/

/-- FREE VALUE (log 6): STOP_WAKE as any predicate on the machine state (spec/00_scope.md R7; spec/46_cpu_control.md R264). -/
opaque Sys2Proof.Config.stopWake (k : Nat) (s : Sys2Proof.Machine.State) : Bool

namespace Sys2Proof.Machine

/-- Does a wake predicate hold in a state (spec/46_cpu_control.md R264; log 6)? -/
def wakeHolds (p : WakePredicate) (s : State) : Bool :=
  match p with
  | .requests mask => s.intr.ifl &&& mask != 0
  | .bits a mask => busRead s a &&& mask != 0
  | .not q => !wakeHolds q s
  | .and q r => wakeHolds q s && wakeHolds r s
  | .or q r => wakeHolds q s || wakeHolds r s
  | .given k => Config.stopWake k s

/-- STOP_WAKE (R264). -/
def stopWake (s : State) : Bool := wakeHolds s.params.stopWake s

/-- What the checks before the fetch decide (R291). -/
inductive Boundary where
  /-- No step is taken: a recorded fault, or stuck in STOP. -/
  | halt (f : Fault)
  /-- An idle halted step. -/
  | idle (s : State)
  /-- An interrupt is dispatched. -/
  | dispatch (s : State)
  /-- An instruction is fetched from this state. -/
  | fetch (s : State)
  deriving DecidableEq, Repr

/-- The end of the EI delay (R266, R291): `ei_pending` moves into IME. -/
def endEiDelay (s : State) : State :=
  if s.intr.eiPending then s.mapIntr fun i => { i with ime := true, eiPending := false } else s

/-- The interrupt check and the end of the EI delay, in a state that is neither stopped nor halted (R291, R292). -/
def interruptCheck (s : State) : Boundary :=
  if s.intr.ime ∧ pending s = true then .dispatch (takeInterrupt s) else .fetch (endEiDelay s)

/-- The HALT wake (R291, R297): `pending`, whatever IME is. -/
def haltCheck (s : State) : Boundary :=
  if s.halted then
    if pending s then interruptCheck { s with halted := false } else .idle s
  else interruptCheck s

/-- The checks before the fetch, in R291's order. A state with a recorded fault takes no step (R36). -/
def atBoundary (s : State) : Boundary :=
  match s.fault with
  | some info => .halt (.illegalInstruction info)
  | none =>
    if s.stopped then
      if stopWake s then haltCheck { s with stopped := false } else .halt .stuck
    else haltCheck s

/-- Where the byte after the opcode is fetched from: pc itself when the HALT bug's latch keeps the opcode's fetch from
advancing pc (R291; spec/10_state.md R35), else pc + 1. -/
def operandPc (s : State) : Word := if s.haltBugLatch then s.pc else s.pc + 1

/-- The opcode byte at pc. -/
def opcodeAt (s : State) : Byte := busRead s s.pc

/-- The instruction at pc (R86): the opcode and the bytes after it, each a bus read at fetch time (R71). -/
def instrAt (s : State) : Instr :=
  decodeBytes (opcodeAt s) (busRead s (operandPc s)) (busRead s (operandPc s + 1))

/-- The state an instruction is run in: its bytes are fetched, pc is past them, the latch is spent (R28, R35). -/
def afterFetch (s : State) : State :=
  { s with haltBugLatch := false }.setPc (operandPc s + BitVec.ofNat 16 (lengthOfOpcode (opcodeAt s) - 1))

/-- The fault of an illegal opcode at pc: the address is that of the opcode byte, with the latch set too (R281, R291). -/
def illegalAt (s : State) : Fault := .illegalInstruction { opcode := opcodeAt s, pc := s.pc }

end Sys2Proof.Machine
end

