-- ==== Sys2Proof/Machine/HostView.lean ====
section
/-! DEFINITION. The host's accesses between steps: setters (spec/10_state.md R40), the memory view (spec/20_memory.md R65;
spec/92_eei_decisions.md D29) and the save state (spec/60_exceptions.md R326). -/

namespace Sys2Proof.Machine

/-- Which flag a flag setter writes (R40). -/
inductive Flag where
  | z
  | n
  | h
  | c
  deriving DecidableEq, Repr

/-- A flag setter writes only that flag's bit (R40). -/
def hostSetFlag (s : State) (x : Flag) (v : Bool) : State :=
  match x with
  | .z => s.setFlags v s.flagN s.flagH s.flagC
  | .n => s.setFlags s.flagZ v s.flagH s.flagC
  | .h => s.setFlags s.flagZ s.flagN v s.flagC
  | .c => s.setFlags s.flagZ s.flagN s.flagH v

/-- The IME setter (R40, R30). -/
def hostSetIme (s : State) (v : Bool) : State := s.mapIntr fun i => { i with ime := v }

/-- The IE setter (R40, R31). -/
def hostSetIe (s : State) (v : Byte) : State := s.mapIntr fun i => { i with ie := v }

/-- The IF setter (R40, R32): five bits are stored. -/
def hostSetIf (s : State) (v : Byte) : State := s.mapIntr fun i => { i with ifl := v.extractLsb' 0 5 }

/-- The machine with one byte of wave RAM stored. -/
def State.storeWave (s : State) (a : Nat) (v : Byte) : State := { s with waveRam := s.waveRam.write a v }

/-- The machine after a host's poke of a register of the platform's own: what the platform then holds is a free value (logs 10
and 35). -/
def State.pokePlatform (s : State) (a : Nat) (v : Byte) : State :=
  { s with own := Config.platformPoke s.own s.freeIdx a v, freeIdx := s.freeIdx + 1 }

/-- A poke of an I/O address (92 D29): the stored byte of the element, with no side effect. An element with no stored value
is left as it is; a platform-owned register reads free values afterwards (log 35). -/
def pokeIo (s : State) (a : Word) (v : Byte) : State :=
  match ioRegOf a with
  | .ifl => hostSetIf s v
  | .div => s.mapTimer fun t => { t with divCounter := v.setWidth 16 <<< 6 }
  | .tima => s.mapTimer fun t => { t with tima := v }
  | .tma => s.mapTimer fun t => { t with tma := v }
  | .tac => s.mapTimer fun t => { t with tac := v.extractLsb' 0 3 }
  | .lcdc => s.mapPpu fun p => { p with lcdc := v }
  | .stat => s.mapPpu fun p => { p with statSel := v.extractLsb' 3 4 }
  | .scy => s.mapPpu fun p => { p with scy := v }
  | .scx => s.mapPpu fun p => { p with scx := v }
  | .ly => s.mapPpu fun p => { p with ly := v }
  | .lyc => s.mapPpu fun p => { p with lyc := v }
  | .bgp => s.mapPpu fun p => { p with bgp := v }
  | .obp0 => s.mapPpu fun p => { p with obp0 := v }
  | .obp1 => s.mapPpu fun p => { p with obp1 := v }
  | .wy => s.mapPpu fun p => { p with wy := v }
  | .wx => s.mapPpu fun p => { p with wx := v }
  | .apu r => { s with apu := s.apu.store r v }
  | .wave => s.storeWave a.toNat v
  | .bootOff => s
  | .platform => s.pokePlatform a.toNat v

/-- A poke by the address map (R65; 92 D29): a ROM address takes the image byte of the mapped bank, and nothing has a side effect.
While the boot ROM overlays 0x0000-0x00FF a poke there writes the boot ROM's byte, the one a read of that address gives, and leaves
the cartridge's: D29 does not say which (DESIGN CHOICE, log 41). External RAM takes the byte in the selected bank, disabled or not;
with no bank on the cartridge there is no stored value to change, and a poke changes nothing (DEDUCED, log 35). -/
def mapPoke (s : State) (a : Word) (v : Byte) : State :=
  match regionOf a with
  | .romFixed =>
    if s.bootOverlay ∧ a.toNat < 0x100 then { s with bootRom := s.bootRom.write a.toNat v }
    else { s with rom := s.rom.write a.toNat v }
  | .romBanked => { s with rom := s.rom.write (romOffset s.params s.mbc a) v }
  | .vram => s.storeRam a.toNat v
  | .extRam =>
    if s.params.ramBanks = 0 then s else { s with extRam := s.extRam.write (extRamOffset s.params s.mbc a) v }
  | .wram => s.storeRam a.toNat v
  | .echo => s.storeRam (echoOf a).toNat v
  | .oam => s.storeRam a.toNat v
  | .unusable => s
  | .io => pokeIo s a v
  | .hram => s.storeRam a.toNat v
  | .ie => hostSetIe s v

/-- A poke past a given BUS (00 R7; log 37), IE and IF being the engine's own. -/
def givenPoke (k : Nat) (s : State) (a : Word) (v : Byte) : State :=
  if a = 0xFFFF then hostSetIe s v
  else if a = 0xFF0F then hostSetIf s v
  else s.setPlatform (Config.busPoke k s.platform a v)

/-- A poke through the memory view (R65; 92 D29). -/
def pokeByte (s : State) (a : Word) (v : Byte) : State :=
  match s.params.bus with
  | .spec => mapPoke s a v
  | .given k => givenPoke k s a v

/-- A read through the memory view gives what a bus read would (92 D29). -/
def viewByte (s : State) (a : Word) : Byte := busRead s a

/-- Poke three bytes in fetch order from an address. -/
def pokeBytes (s : State) (a : Word) (bytes : List Byte) : State :=
  match bytes with
  | [] => s
  | v :: rest => pokeBytes (pokeByte s a v) (a + 1) rest

/-- A machine about to fetch at pc: no fault, not stopped, not halted, no HALT-bug latch, no interrupt to dispatch. -/
def readyToFetch (s : State) : State :=
  { s with fault := none, stopped := false, halted := false, haltBugLatch := false }.mapIntr fun i =>
    { i with ime := i.ime && !pending s }

/-- A save-state buffer (R326): the version tag and the length that a valid one has are free values, and the captured fields
are abstract, since the byte layout is in no source (log 29). -/
structure SaveBuffer where
  version : Nat
  length : Nat
  fields : State
  deriving DecidableEq, Repr

/-- Why a buffer is refused (R326). -/
inductive SaveError where
  | wrongVersionOrLength
  deriving DecidableEq, Repr

/-- `serialize` (R326): everything but execution control. -/
def serialize (s : State) : SaveBuffer :=
  { version := Config.saveVersion, length := Config.saveLength, fields := { s with ctl := Control.reset } }

/-- The fields of `saved` over the execution control, parameters and platform inputs of `s`, which are not captured. -/
def restoreFields (saved s : State) : State :=
  { saved with ctl := s.ctl, params := s.params, requests := s.requests, freeIdx := s.freeIdx }

/-- `deserialize` (R326): all of the captured fields, or an error. -/
def deserialize (b : SaveBuffer) (s : State) : Except SaveError State :=
  if b.version = Config.saveVersion ∧ b.length = Config.saveLength then .ok (restoreFields b.fields s)
  else .error .wrongVersionOrLength

end Sys2Proof.Machine
end

