-- ==== Sys2Proof/Machine/Platform.lean ====
section
/-! DEFINITION. PLATFORM_TICK (spec/60_exceptions.md R298): the devices advance by the M-cycles of a step. -/

namespace Sys2Proof.Machine

/-- The serial and joypad requests the platform makes in this tick (R305), set in IF as R299 says. -/
def applyRequests (rs : List PlatformRequest) (ifl : BitVec 5) : BitVec 5 :=
  match rs with
  | [] => ifl
  | r :: _ =>
    ifl ||| (if r.serial then 0b01000 else 0) ||| (if r.joypad then 0b10000 else 0)

/-- The devices and IF after the spec's PLATFORM_TICK (R298): the timer by `c`, the PPU by four dots an M-cycle, the APU by `c`. -/
def specTick (s : State) (c : Nat) : Platform × BitVec 5 :=
  let t := timerTick s.timer s.intr.ifl c
  let p := ppuTick s.ppu t.2 (4 * c)
  ({ timer := t.1, ppu := p.1, apu := apuTick s.params.apu s.apu c, own := s.own }, p.2)

/-- The devices and IF after a given PLATFORM_TICK (00 R7; 92 D18; log 37): it sets request bits and clears none (R299). -/
def givenTick (k : Nat) (s : State) (c : Nat) : Platform × BitVec 5 :=
  ((Config.platformTick k s.platform c).1, s.intr.ifl ||| (Config.platformTick k s.platform c).2)

/-- The devices and IF after PLATFORM_TICK: the one R298 gives, or the one given in its place. -/
def deviceTick (s : State) (c : Nat) : Platform × BitVec 5 :=
  match s.params.tick with
  | .spec => specTick s c
  | .given k => givenTick k s c

/-- `PLATFORM_TICK(s, c)` (R298): the devices, the platform's own requests (R305), the cycle count. `freeIdx` advances, so that the
platform's registers may read differently after it (log 10). -/
def platformTick (s : State) (c : Nat) : State :=
  let d := deviceTick s c
  { s.setPlatform d.1 with
    intr := { s.intr with ifl := applyRequests s.requests d.2 }
    requests := s.requests.tail
    ctl := { s.ctl with totalCycles := s.ctl.totalCycles + c }
    freeIdx := s.freeIdx + 1 }

end Sys2Proof.Machine
end

