-- ==== Sys2Proof/Machine/Timing.lean ====
section
/-! DEFINITION. The M-cycle costs (spec/70_reset_and_hazards.md R383, R384): a lookup in the parameter CYCLES. No instruction's
result depends on it. -/

namespace Sys2Proof.Machine

/-- Is an unprefixed opcode a conditional transfer: JR cc, RET cc, JP cc or CALL cc (spec/30_encoding.md R80, R84)? -/
def isConditional (op : Byte) : Bool :=
  let z := op.extractLsb' 0 3
  (op.extractLsb' 5 3 = 0b001 && z = 0) || (op.extractLsb' 5 3 = 0b110 && (z = 0 || z = 2 || z = 4))

/-- The cost of an unprefixed opcode in a state: a conditional transfer whose condition (bits 4 and 3, R80) fails has its
`cycles_m_not_taken`. -/
def pageCost (t : CycleTable) (op : Byte) (s : State) : Nat :=
  if isConditional op && !s.cond (Cond.ofCode (op.extractLsb' 3 2)) then (t.notTaken.lookup op).getD (mapAt 0 t.page op)
  else mapAt 0 t.page op

/-- The cost of an instruction by a table: a fixed lookup on its bytes (R383). -/
def tableCycles (t : CycleTable) (i : Instr) (s : State) : Nat :=
  match encode i with
  | op :: o :: _ => if op = cbPrefix then mapAt 0 t.cb o else pageCost t op s
  | [op] => pageCost t op s
  | [] => 0

/-- The M-cycles an instruction takes when it is run in a state: its cost by CYCLES (00 R7; R383). -/
def instrCycles (i : Instr) (s : State) : Nat := tableCycles s.params.cycles i s

/-- An idle halted step (R384). -/
def idleCycles : Nat := 1

/-- An interrupt dispatch (R293, R384). -/
def dispatchCycles : Nat := 5

end Sys2Proof.Machine
end

