-- ==== Sys2Proof/Machine/Step.lean ====
section
/-! DEFINITION. One step of the machine: the engine's step (spec/60_exceptions.md R291) and then PLATFORM_TICK by the cycles
it returns (R298). -/

namespace Sys2Proof.Machine

/-- Advance the devices after a step that answers a next state; a step that stops ticks nothing (R298). -/
def tickAfter (r : Result) (c : Nat) : Result :=
  match r with
  | .next t => .next (platformTick t c)
  | .fault f => .fault f
  | .refused f => .refused f

/-- Run the instruction at pc (R291): an illegal opcode faults and discards the step, any other instruction is run with pc
past it. -/
def runInstr (s : State) : Result :=
  if isIllegal (opcodeAt s) then .fault (illegalAt s)
  else tickAfter (exec (instrAt s) (afterFetch s)) (instrCycles (instrAt s) (afterFetch s))

/-- One step (R291, R298). It reads neither `running` nor `breakpoints`, which are the execution controller's
(Machine/Controller.lean; log 7). -/
def step (s : State) : Host.Outcome State Fault Refusal :=
  match atBoundary s with
  | .halt f => .fault f
  | .idle t => .next (platformTick t idleCycles)
  | .dispatch t => .next (platformTick t dispatchCycles)
  | .fetch t => runInstr t

/-- The machine with an instruction of the opcode table stored where `step` fetches its next instruction, and ready to fetch it
(log 2, log 3): the bytes go to pc through the host's memory view, which is how an image byte of ROM is written. -/
def State.withFetchWord (s : State) (nbits w : Nat) : State :=
  readyToFetch (pokeBytes s s.pc (tableBytes nbits w))

end Sys2Proof.Machine
end

