-- ==== Sys2Proof/Machine/Render.lean ====
section
/-! DEFINITION. Rendering: a pure function of VRAM, OAM and the PPU registers (spec/60_exceptions.md R347 to R351). -/

namespace Sys2Proof.Machine

/-- The colour index of pixel column i, 0 leftmost (R347). -/
def tilePixel (lo hi : Byte) (i : Nat) : BitVec 2 :=
  BitVec.ofBool (hi.getLsbD (7 - i)) ++ BitVec.ofBool (lo.getLsbD (7 - i))

/-- The eight colour indices of a tile row (R347). -/
def tileRow (lo hi : Byte) : List (BitVec 2) := (List.range 8).map (tilePixel lo hi)

/-- The colour index at column u, row v of the tile at an address: row r is the bytes at 2r and 2r + 1 (R347). -/
def tileAt (m : Memory) (base u v : Nat) : BitVec 2 :=
  tilePixel (m.read (base + 2 * v)) (m.read (base + 2 * v + 1)) u

/-- The address of tile t for background and window, by LCDC[4] (R347). -/
def bgTileAddr (p : Ppu) (t : Byte) : Nat :=
  if p.lcdc.getLsbD 4 then 0x8000 + 16 * t.toNat else (0x9000 + 16 * t.toInt).toNat

/-- The colour index at map coordinates (u, v) of a tile map (R348). -/
def mapPixel (p : Ppu) (m : Memory) (base u v : Nat) : BitVec 2 :=
  tileAt m (bgTileAddr p (m.read (base + 32 * (v / 8) + u / 8))) (u % 8) (v % 8)

/-- The tile map a select bit chooses (R341). -/
def mapBase (high : Bool) : Nat := if high then 0x9C00 else 0x9800

/-- Does the window cover screen pixel (x, y) (R348)? -/
def inWindow (p : Ppu) (x y : Nat) : Bool :=
  p.lcdc.getLsbD 5 && decide (p.wy.toNat ≤ y) && decide (p.wx.toNat ≤ x + 7)

/-- The background or window colour index at screen pixel (x, y) (R348). -/
def bgIndex (p : Ppu) (m : Memory) (x y : Nat) : BitVec 2 :=
  if p.lcdc.getLsbD 0 = false then 0
  else if inWindow p x y then
    mapPixel p m (mapBase (p.lcdc.getLsbD 6)) (x + 7 - p.wx.toNat) (y - p.wy.toNat)
  else mapPixel p m (mapBase (p.lcdc.getLsbD 3)) ((x + p.scx.toNat) % 256) ((y + p.scy.toNat) % 256)

/-- An OAM entry (R350). -/
structure Sprite where
  y : Byte
  x : Byte
  tile : Byte
  attr : Byte
  deriving DecidableEq, Repr

/-- OAM entry k: four bytes at 0xFE00 + 4k (R350). -/
def spriteAt (m : Memory) (k : Nat) : Sprite :=
  { y := m.read (0xFE00 + 4 * k), x := m.read (0xFE01 + 4 * k), tile := m.read (0xFE02 + 4 * k)
    attr := m.read (0xFE03 + 4 * k) }

/-- The sprite height by LCDC[2] (R341). -/
def spriteHeight (p : Ppu) : Nat := if p.lcdc.getLsbD 2 then 16 else 8

/-- Does a sprite's rows cover line y (R350: the screen row is Y - 16)? -/
def coversLine (p : Ppu) (y : Nat) (sp : Sprite) : Bool :=
  decide (sp.y.toNat ≤ y + 16) && decide (y + 16 < sp.y.toNat + spriteHeight p)

/-- The sprites of line y: up to 10, in OAM order (R350). -/
def lineSprites (p : Ppu) (m : Memory) (y : Nat) : List Sprite :=
  if p.lcdc.getLsbD 1 then (((List.range 40).map (spriteAt m)).filter (coversLine p y)).take 10 else []

/-- Does a sprite's columns cover x (R350: the screen column is X - 8)? -/
def coversColumn (x : Nat) (sp : Sprite) : Bool :=
  decide (sp.x.toNat ≤ x + 8) && decide (x + 8 < sp.x.toNat + 8)

/-- The row of a sprite shown on line y, with Y flip (R350). -/
def spriteRow (p : Ppu) (y : Nat) (sp : Sprite) : Nat :=
  let r := y + 16 - sp.y.toNat
  if sp.attr.getLsbD 6 then spriteHeight p - 1 - r else r

/-- The column of a sprite shown at x, with X flip (R350). -/
def spriteColumn (x : Nat) (sp : Sprite) : Nat :=
  let c := x + 8 - sp.x.toNat
  if sp.attr.getLsbD 5 then 7 - c else c

/-- The tile number: in 8 by 16 mode its bit 0 is ignored (R350). -/
def spriteTile (p : Ppu) (sp : Sprite) : Byte := if p.lcdc.getLsbD 2 then sp.tile &&& 0xFE else sp.tile

/-- The colour index of a sprite at screen pixel (x, y), 0 transparent (R347, R350). -/
def spriteIndex (p : Ppu) (m : Memory) (x y : Nat) (sp : Sprite) : BitVec 2 :=
  tileAt m (0x8000 + 16 * (spriteTile p sp).toNat) (spriteColumn x sp) (spriteRow p y sp)

/-- The sprite drawn on top: the smaller X, then the earlier in OAM (R350). -/
def topSprite (best : Option Sprite) (rest : List Sprite) : Option Sprite :=
  match rest with
  | [] => best
  | sp :: more =>
    match best with
    | none => topSprite (some sp) more
    | some b => topSprite (some (if sp.x.toNat < b.x.toNat then sp else b)) more

/-- The sprite whose pixel shows at (x, y), among those that cover it and are not transparent there (R350; DEDUCED, log 34). -/
def shownSprite (p : Ppu) (m : Memory) (x y : Nat) : Option Sprite :=
  topSprite none ((lineSprites p m y).filter fun sp => coversColumn x sp && spriteIndex p m x y sp != 0)

/-- A palette's shade of a colour index (R351). -/
def paletteShade (pal : Byte) (idx : BitVec 2) : BitVec 2 := (pal >>> (2 * idx.toNat)).extractLsb' 0 2

/-- A sprite's palette, by attribute bit 4 (R350). -/
def spritePalette (p : Ppu) (sp : Sprite) : Byte := if sp.attr.getLsbD 4 then p.obp1 else p.obp0

/-- The shade of screen pixel (x, y), 0 lightest (R350, R351): attribute bit 7 puts a sprite behind background indices 1 to 3. -/
def pixelShade (p : Ppu) (m : Memory) (x y : Nat) : BitVec 2 :=
  let bg := bgIndex p m x y
  match shownSprite p m x y with
  | none => paletteShade p.bgp bg
  | some sp =>
    if sp.attr.getLsbD 7 && bg != 0 then paletteShade p.bgp bg
    else paletteShade (spritePalette p sp) (spriteIndex p m x y sp)

/-- The 160 by 144 buffer, line by line (R351). It changes no state. -/
def renderFrame (s : State) : List (List (BitVec 2)) :=
  (List.range 144).map fun y => (List.range 160).map fun x => pixelShade s.ppu s.ram x y

end Sys2Proof.Machine
end

