-- ==== Sys2Proof/Machine/Cartridge.lean ====
section
/-! DEFINITION. The cartridge loader and machine reset (spec/60_exceptions.md R361; spec/70_reset_and_hazards.md R370, R371). -/

namespace Sys2Proof.Machine

/-- MBC_TYPE from header byte 0x0147 (R361); an unknown type is refused (92 D32). -/
def mbcTypeOf (code : Byte) : Option MbcType :=
  match code.toNat with
  | 0x00 => some .romOnly
  | 0x01 => some .mbc1
  | 0x02 => some .mbc1
  | 0x03 => some .mbc1
  | _ => none

/-- `rom_banks` from header byte 0x0148 (R361): 2 shifted left by the value, for values 0 to 8. What a loader does with another
value the spec does not say: the image is refused (DESIGN CHOICE, log 43). -/
def romBanksOf (code : Byte) : Option Nat :=
  if code.toNat ≤ 8 then some (2 <<< code.toNat) else none

/-- `ram_banks` from header byte 0x0149 (R361 names the byte and no codes; PRESUMED, log 23). -/
def ramBanksOf (code : Byte) : Option Nat :=
  match code.toNat with
  | 0x00 => some 0
  | 0x01 => some 1
  | 0x02 => some 1
  | 0x03 => some 4
  | 0x04 => some 16
  | 0x05 => some 8
  | _ => none

/-- The parameters with the cartridge's part fixed from an image's header (R371), or none if the image is refused. -/
def headerParams (p : Params) (img : Memory) : Option Params :=
  match mbcTypeOf (img.read 0x0147), romBanksOf (img.read 0x0148), ramBanksOf (img.read 0x0149) with
  | some t, some r, some k => some { p with mbcType := t, romBanks := r, ramBanks := k }
  | _, _, _ => none

/-- Why an image is refused (R361). -/
inductive LoadError where
  | unknownHeader
  deriving DecidableEq, Repr

/-- Load a cartridge image before the first step (R371): the header fixes the MBC type and the bank counts for the life of the
machine, and the machine is reset (R370). -/
def loadCartridge (p : Params) (img : Images) : Except LoadError State :=
  match headerParams p img.rom with
  | some q => .ok (State.powerOn q img)
  | none => .error .unknownHeader

/-- Machine reset of a running machine (R370): the images stay, all else is as at power-on; RAM and external RAM then hold the
draws given (R74), and a given platform what it is given (log 37). -/
def machineReset (s : State) (ram extRam : Memory) (own : Nat) : State :=
  State.powerOn s.params { rom := s.rom, bootRom := s.bootRom, ram := ram, extRam := extRam, own := own }

end Sys2Proof.Machine
end

