-- ==== Sys2Proof/Machine/Controller.lean ====
section
/-! DEFINITION. The execution controller (spec/60_exceptions.md R320 to R327; spec/10_state.md R37). -/

namespace Sys2Proof.Machine

/-- Insert an address in a strictly rising list, once. -/
def insertAddress (a : Word) (l : List Word) : List Word :=
  match l with
  | [] => [a]
  | x :: rest =>
    if a.toNat < x.toNat then a :: x :: rest
    else if a = x then x :: rest
    else x :: insertAddress a rest

/-- Write execution control through `g`. -/
def State.mapCtl (s : State) (g : Control → Control) : State := { s with ctl := g s.ctl }

/-- `add_breakpoint(a)` (R320): an address outside 0..0xFFFF is rejected and nothing is stored. -/
def addBreakpoint (s : State) (a : Int) : State :=
  if 0 ≤ a ∧ a ≤ 0xFFFF then
    s.mapCtl fun c => { c with breakpoints := insertAddress (BitVec.ofInt 16 a) c.breakpoints }
  else s

/-- `remove_breakpoint(a)` (R320): removing an absent address is no change. -/
def removeBreakpoint (s : State) (a : Int) : State :=
  if 0 ≤ a ∧ a ≤ 0xFFFF then
    s.mapCtl fun c => { c with breakpoints := c.breakpoints.filter fun x => x != BitVec.ofInt 16 a }
  else s

/-- `start_running()` (R320). -/
def startRunning (s : State) : State := s.mapCtl fun c => { c with running := true }

/-- `stop_running()` (R320). -/
def stopRunning (s : State) : State := s.mapCtl fun c => { c with running := false }

/-- `toggle_is_running()` (R320). -/
def toggleRunning (s : State) : State := s.mapCtl fun c => { c with running := !c.running }

/-- `is_running()` (R320). -/
def isRunning (s : State) : Bool := s.ctl.running

/-- How a run call ends (R327). -/
inductive RunResult where
  | budgetExhausted
  | paused
  | breakpoint
  | faulted
  | stuck
  deriving DecidableEq, Repr

/-- Record an IllegalInstruction fault and stop the run (R281, R321). -/
def recordFault (s : State) (info : IllegalInstruction) : State :=
  { stopRunning s with fault := some info }

/-- Will this step only idle (R321)? -/
def onlyIdles (s : State) : Bool := s.halted && !pending s

/-- Does the run stop at the breakpoint check after a step from `s` to `t` (R321)? Not after an idle step. -/
def hitsBreakpoint (s t : State) : Bool := !onlyIdles s && t.ctl.breakpoints.contains t.pc

/-- `execute_opcodes(n)` (R321): the loop, and with which result it ends. A refusal cannot happen (every instruction has its
meaning); it would end the run as Stuck does, with the state unchanged. -/
def run (n : Nat) (s : State) : State × RunResult :=
  match n with
  | 0 => (s, .budgetExhausted)
  | k + 1 =>
    if s.ctl.running = false then (s, .paused)
    else if s.fault.isSome then (stopRunning s, .faulted)
    else
      match step s with
      | .fault (.illegalInstruction info) => (recordFault s info, .faulted)
      | .fault .stuck => (s, .stuck)
      | .refused _ => (s, .stuck)
      | .next t => if hitsBreakpoint s t then (stopRunning t, .breakpoint) else run k t

/-- `execute_opcodes_no_stop()` (R322) ends in `t` with result `r`: some budget is enough for a run that ends otherwise than by
the budget. It may hold of no `t` and `r`: that run never returns. -/
def RunsUntilStopped (s t : State) (r : RunResult) : Prop :=
  r ≠ .budgetExhausted ∧ ∃ n, run n s = (t, r)

end Sys2Proof.Machine
end

