-- ==== Sys2Proof/Safety.lean ====
section
/-! DEFINITION. The terms that claims use: an instruction that completes, the machine invariant, and what an instruction
may change. What an instruction may change is read off its encoding (spec/30_encoding.md R76, R83), not off its meaning. -/

namespace Sys2Proof.Machine

/-- The instruction runs from `s` to `t` (spec/00_scope.md R11: `Next(state, cycles)`), whatever the parameters are, and takes `c`
M-cycles by the default of the parameter CYCLES, the table of opcode_table.json (R7; spec/70_reset_and_hazards.md R383). -/
def Completes (i : Instr) (c : Nat) (s t : State) : Prop :=
  exec i s = .next t ∧ (s.params.cycles = CycleTable.default → instrCycles i s = c)

/-- Addresses in strictly rising order. -/
def rising (l : List Word) : Prop := l.Pairwise fun a b => a.toNat < b.toNat

/-- THE MACHINE INVARIANT: the relations between fields of the state that the spec gives or the model's data form needs. -/
structure Inv (s : State) : Prop where
  /-- The byte memories are in their canonical form (log 1). -/
  ramWf : s.ram.wf = true
  extRamWf : s.extRam.wf = true
  romWf : s.rom.wf = true
  waveRamWf : s.waveRam.wf = true
  bootRomWf : s.bootRom.wf = true
  /-- "Bits 3..0 of F read as 0 always" (spec/10_state.md R25). -/
  fLow : s.regs.f &&& 0x0F = 0
  /-- With the spec's BUS and PLATFORM_TICK, LY is 0 to 153 and the dot counter 0 to 455 (spec/60_exceptions.md R342). -/
  lyRange : s.params.specPlatform → s.ppu.ly.toNat < 154
  dotRange : s.params.specPlatform → s.ppu.dot < 456
  /-- With them, the PPU stands at line 0, dot 0 while the LCD is off (R346). -/
  lcdOff : s.params.specPlatform → s.ppu.on = false → s.ppu.ly = 0 ∧ s.ppu.dot = 0
  /-- With them, `timer_sub` is below the longest period (R310, R313). -/
  subRange : s.params.specPlatform → s.timer.sub < 256
  /-- `halted` and `stopped` never hold together (R33). -/
  oneSleep : ¬(s.halted = true ∧ s.stopped = true)
  /-- The HALT bug's latch exists only with HALT_BUG (R35). -/
  latchParam : s.haltBugLatch = true → s.params.haltBug = true
  /-- The breakpoint set is in its canonical form (R37; log 33). -/
  breakpointsRising : rising s.ctl.breakpoints

/-- A state in which the next step fetches an instruction: no fault, awake, and no interrupt to take (R291, R292). -/
def aboutToFetch (s : State) : Prop :=
  s.fault = none ∧ s.stopped = false ∧ s.halted = false ∧ (s.intr.ime = false ∨ pending s = false)

/-- The cycles of a form whose operand a 3-bit code names: one count for a register, another for the byte at HL. -/
def locCycles (l : Loc8) (reg atHl : Nat) : Nat :=
  match l with
  | .reg _ => reg
  | .atHl => atHl

/-- The machine with A and the flags replaced and nothing else changed. -/
def State.withAF (s : State) (a : Byte) (z n h c : Bool) : State :=
  { s with regs := { s.regs with a := a, f := packF z n h c } }

/-- The machine after `add8(A, v, cin)` is put in A and F (spec/42_alu8.md R141), on exact sums. -/
def afterAdd (s : State) (v : Byte) (cin : Bool) : State :=
  let sum := s.regs.a.toNat + v.toNat + cin.toNat
  s.withAF (BitVec.ofNat 8 sum) (sum % 256 = 0) false
    (0x0F < (s.regs.a &&& 0x0F).toNat + (v &&& 0x0F).toNat + cin.toNat) (0xFF < sum)

/-- The difference of `sub8(A, v, cin)` (R142), exact. -/
def difference (s : State) (v : Byte) (cin : Bool) : Int := (s.regs.a.toNat : Int) - v.toNat - cin.toNat

/-- The flags of `sub8(A, v, cin)` put in F (R142) with `a` in A. -/
def afterSubWith (s : State) (a v : Byte) (cin : Bool) : State :=
  s.withAF a (difference s v cin % 256 = 0) true
    ((s.regs.a &&& 0x0F).toNat < (v &&& 0x0F).toNat + cin.toNat) (difference s v cin < 0)

/-- The machine after `sub8(A, v, cin)` is put in A and F (R142). -/
def afterSub (s : State) (v : Byte) (cin : Bool) : State :=
  afterSubWith s (BitVec.ofInt 8 (difference s v cin)) v cin

/-- The machine after a logic operation's result is put in A (R143): N and C cleared, H as given. -/
def afterLogic (s : State) (res : Byte) (h : Bool) : State := s.withAF res (res = 0) false h false

/-- Where a byte of the memory subsystem's RAM stands behind an address, if it stands there (R53, R54). -/
def ramKey (a : Word) : Option Nat :=
  match regionOf a with
  | .vram => some a.toNat
  | .wram => some a.toNat
  | .echo => some (echoOf a).toNat
  | .oam => some a.toNat
  | .hram => some a.toNat
  | _ => none

/-- The work-RAM address behind an address of work RAM or of its echo (R54). -/
def workRamOf (a : Word) : Word := if regionOf a = .echo then echoOf a else a

/-- Is this I/O address the APU's, wave RAM included (R358)? -/
def ownedByApu (b : Word) : Bool :=
  match ioRegOf b with
  | .apu _ => true
  | .wave => true
  | _ => false

/-- Is what this I/O address reads as a free value of the platform's (R58; log 10)? -/
def ownedByPlatform (b : Word) : Bool := ioRegOf b = .platform || ioRegOf b = .bootOff

/-- Which I/O addresses may read differently after a write to the I/O address `a`: itself, but for the registers of which the
spec says otherwise (R341: LY ignores a write, STAT shows LY against LYC and the mode; R346: LCDC moves LY and the mode;
R358: the read-back of the APU is open; R58: so is the platform's, 0xFF50's included; R372: 0xFF50 uncovers ROM). That a store to
a register of the platform's own, 0xFF46 among them, leaves everything else as it was is the model's choice (log 10, DESIGN CHOICE,
unsafe). -/
def ioTouches (a b : Word) : Bool :=
  match ioRegOf a with
  | .ly => false
  | .lcdc => b = a || b = 0xFF41 || b = 0xFF44
  | .lyc => b = a || b = 0xFF41
  | .apu _ => regionOf b = .io && ownedByApu b
  | .wave => regionOf b = .io && ownedByApu b
  | .bootOff => decide (b.toNat < 0x100) || (regionOf b = .io && ownedByPlatform b)
  | .platform => regionOf b = .io && ownedByPlatform b
  | _ => b = a

/-- The bytes of the address space that a one-byte store at `a` may make read differently (R53 to R57). A write to ROM changes
no ROM byte: it may switch the banks seen at 0x4000-0x7FFF and 0xA000-0xBFFF (R56). -/
def mapTouches (a b : Word) : Bool :=
  match regionOf a with
  | .romFixed => regionOf b = .romBanked || regionOf b = .extRam
  | .romBanked => regionOf b = .romBanked || regionOf b = .extRam
  | .wram => (regionOf b = .wram || regionOf b = .echo) && workRamOf b = workRamOf a
  | .echo => (regionOf b = .wram || regionOf b = .echo) && workRamOf b = workRamOf a
  | .unusable => false
  | .io => ioTouches a b
  | .vram => b = a
  | .extRam => b = a
  | .oam => b = a
  | .hram => b = a
  | .ie => b = a

/-- Is this the address of one of the engine's own two registers, IE and IF (spec/92_eei_decisions.md D4)? -/
def engineOwned (a : Word) : Bool := a = 0xFFFF || a = 0xFF0F

/-- The bytes of the address space that a one-byte store at `a` may make read differently, by the BUS: of a given one (00 R7; log 37)
nothing is known but that IE and IF stay the engine's. -/
def touches (bus : Source) (a b : Word) : Bool :=
  match bus with
  | .spec => mapTouches a b
  | .given _ => if engineOwned a then b = a else !engineOwned b

/-- The bytes that the reset of DIV by STOP may make read differently (spec/46_cpu_control.md R263). -/
def divTouches (bus : Source) (b : Word) : Bool :=
  match bus with
  | .spec => b = 0xFF04
  | .given _ => !engineOwned b

/-- The addresses PUSH, CALL, RST and dispatch store at (spec/41_load16.md R131). -/
def pushAddrs (s : State) : List Word := [s.sp - 1, s.sp - 2]

/-- The addresses an instruction stores at when it is run from `s`; none for a form that stores nothing. -/
def storeAddrs (i : Instr) (s : State) : List Word :=
  match i with
  | .ldAtBcA => [s.bc]
  | .ldAtDeA => [s.de]
  | .ldAtHlIncA => [s.hl]
  | .ldAtHlDecA => [s.hl]
  | .ldAtHlN _ => [s.hl]
  | .ldAtNnSp nn => [nn, nn + 1]
  | .ldAtNnA nn => [nn]
  | .ldhAtNA n => [highPage n]
  | .ldAtCA => [highPage s.regs.c]
  | .pushBc => pushAddrs s
  | .pushDe => pushAddrs s
  | .pushHl => pushAddrs s
  | .pushAf => pushAddrs s
  | .callNn _ => pushAddrs s
  | .callNzNn _ => if s.cond .nz then pushAddrs s else []
  | .callZNn _ => if s.cond .z then pushAddrs s else []
  | .callNcNn _ => if s.cond .nc then pushAddrs s else []
  | .callCNn _ => if s.cond .c then pushAddrs s else []
  | .rst00 => pushAddrs s
  | .rst08 => pushAddrs s
  | .rst10 => pushAddrs s
  | .rst18 => pushAddrs s
  | .rst20 => pushAddrs s
  | .rst28 => pushAddrs s
  | .rst30 => pushAddrs s
  | .rst38 => pushAddrs s
  | .incAtHl => [s.hl]
  | .decAtHl => [s.hl]
  | other =>
    match encode other with
    | [op] => if op.extractLsb' 3 5 = 0b01110 ∧ op ≠ 0x76 then [s.hl] else []
    | [op, o] => if op = cbPrefix ∧ o.extractLsb' 0 3 = 6 ∧ o.extractLsb' 6 2 ≠ 1 then [s.hl] else []
    | _ => []

/-- The register that a 3-bit code names, as a list: none for code 6, the byte at HL (spec/10_state.md R23). -/
def regList (y : BitVec 3) : List R8 :=
  match Loc8.ofCode y with
  | .reg r => [r]
  | .atHl => []

/-- The two registers of a pair code (spec/10_state.md R24): `rp2` where `stack` holds, else `rp`, and none for SP. F is not
among the registers listed here. -/
def pairList (stack : Bool) (p : BitVec 2) : List R8 :=
  match p.toNat with
  | 0 => [.b, .c]
  | 1 => [.d, .e]
  | 2 => [.h, .l]
  | _ => if stack then [.a] else []

/-- The general registers an opcode of quadrant x = 0 writes (R76, R84). -/
def destRegs0 (op : Byte) : List R8 :=
  match (op.extractLsb' 0 3).toNat with
  | 1 => if op.getLsbD 3 then [.h, .l] else pairList false (op.extractLsb' 4 2)
  | 2 => (if op.getLsbD 3 then [.a] else []) ++ (if op.getLsbD 5 then [.h, .l] else [])
  | 3 => pairList false (op.extractLsb' 4 2)
  | 4 => regList (op.extractLsb' 3 3)
  | 5 => regList (op.extractLsb' 3 3)
  | 6 => regList (op.extractLsb' 3 3)
  | 7 => if op.extractLsb' 4 2 = 3 then [] else [.a]
  | _ => []

/-- The general registers an opcode of quadrant x = 3 writes (R76, R84). -/
def destRegs3 (op : Byte) : List R8 :=
  if op.extractLsb' 0 3 = 6 then (if op.extractLsb' 3 3 = 7 then [] else [.a])
  else if op.extractLsb' 0 4 = 1 then pairList true (op.extractLsb' 4 2)
  else if op = 0xF8 then [.h, .l]
  else if op = 0xF0 ∨ op = 0xF2 ∨ op = 0xFA then [.a]
  else []

/-- The general registers (A, B, C, D, E, H, L) an unprefixed opcode writes. -/
def destRegs (op : Byte) : List R8 :=
  match (op.extractLsb' 6 2).toNat with
  | 0 => destRegs0 op
  | 1 => regList (op.extractLsb' 3 3)
  | 2 => if op.extractLsb' 3 3 = 7 then [] else [.a]
  | _ => destRegs3 op

/-- The general registers a CB-page byte writes: BIT writes none (R83). -/
def destRegsCb (o : Byte) : List R8 := if o.extractLsb' 6 2 = 1 then [] else regList (o.extractLsb' 0 3)

/-- The general registers an instruction writes. -/
def writtenRegs (i : Instr) : List R8 :=
  match encode i with
  | op :: o :: _ => if op = cbPrefix then destRegsCb o else destRegs op
  | [op] => destRegs op
  | [] => []

/-- The flags an opcode of quadrant x = 0 leaves as they were, as a mask over F (the column flags_ZNHC of opcode_table.json,
R92): INC and DEC keep C, ADD HL,rr keeps Z, DAA keeps N, CPL keeps Z and C, SCF and CCF keep Z. -/
def keptFlags0 (op : Byte) : Byte :=
  match (op.extractLsb' 0 3).toNat with
  | 1 => if op.getLsbD 3 then 0x80 else 0xF0
  | 4 => 0x10
  | 5 => 0x10
  | 7 =>
    match (op.extractLsb' 3 3).toNat with
    | 4 => 0x40
    | 5 => 0x90
    | 6 => 0x80
    | 7 => 0x80
    | _ => 0x00
  | _ => 0xF0

/-- The flags an unprefixed opcode leaves as they were, as a mask over F. -/
def keptFlagsOp (op : Byte) : Byte :=
  match (op.extractLsb' 6 2).toNat with
  | 0 => keptFlags0 op
  | 1 => 0xF0
  | 2 => 0x00
  | _ => if op.extractLsb' 0 3 = 6 ∨ op = 0xE8 ∨ op = 0xF8 ∨ op = 0xF1 then 0x00 else 0xF0

/-- The flags a CB-page byte leaves as they were: C for BIT, all for RES and SET (R221 to R226). -/
def keptFlagsCb (o : Byte) : Byte :=
  match (o.extractLsb' 6 2).toNat with
  | 0 => 0x00
  | 1 => 0x10
  | _ => 0xF0

/-- The flags an instruction leaves as they were, as a mask over F. -/
def keptFlags (i : Instr) : Byte :=
  match encode i with
  | op :: o :: _ => if op = cbPrefix then keptFlagsCb o else keptFlagsOp op
  | [op] => keptFlagsOp op
  | [] => 0xF0

/-- Does an instruction write SP (spec/10_state.md R27)? -/
def writesSp (i : Instr) : Bool :=
  match encode i with
  | op :: _ =>
    op = 0x31 || op = 0x33 || op = 0x3B || op = 0xE8 || op = 0xF9
      || (op.extractLsb' 6 2 = 3 && (op.extractLsb' 0 3 = 4 || op.extractLsb' 0 3 = 5 || op.extractLsb' 0 3 = 7
        || op.extractLsb' 0 4 = 1 || op.extractLsb' 0 3 = 0 && op.getLsbD 5 = false || op = 0xC9 || op = 0xD9))
  | [] => false

/-- Does an instruction write the interrupt controller's IME or `ei_pending` itself (spec/10_state.md R30, R34)? -/
def writesIme (i : Instr) : Bool :=
  match i with
  | .di => true
  | .ei => true
  | .reti => true
  | _ => false

/-- Everything of the machine but its register file and its program's memory is as it was: control state, parameters, images
and the platform's inputs. Memory and devices are said through `busRead`. -/
def sameControl (s t : State) : Prop :=
  t.fault = s.fault ∧ t.ctl = s.ctl ∧ t.params = s.params ∧ t.rom = s.rom ∧ t.bootRom = s.bootRom ∧ t.requests = s.requests

end Sys2Proof.Machine
end

