-- ==== Sys2Proof/Certificates/Slice0/Obligations.lean ====
section
/-! DEFINITION. The statements for the provers, by the spec's numbered rules. `Completes i c s t` says that exec i s answers
the next state t, with any parameters, in c M-cycles by the default of CYCLES. -/

open Sys2Proof Sys2Proof.Machine

/-- Words written out from the opcode maps decode to the instructions they stand for. (Derived from 30_encoding.md
R84, R85, R86, R89.) -/
def Obligations.DecodesSpecWords : Prop :=
  decodeBytes 0b01000001 0 0 = .ldBC ∧ decodeBytes 0b00001110 0x7F 0 = .ldCN 0x7F ∧
  decodeBytes 0b11111010 0x45 0xC3 = .ldAAtNn 0xC345 ∧ decodeBytes 0b00111001 0 0 = .addHlSp ∧
  decodeBytes 0b00010000 0 0 = .stop 0 ∧ decodeBytes 0b01110110 0 0 = .halt ∧
  decodeBytes 0b11011001 0 0 = .reti ∧ decodeBytes 0b11001011 0b00110111 0 = .swapA ∧
  decodeBytes 0b11001011 0b11001011 0 = .set1E ∧ decodeBytes 0b11010011 0 0 = .illegalD3

/-- Decoding the bytes of any well-formed instruction gives it back, whatever follows. (Derived from 30_encoding.md
R75, R77, R84, R85, R86.) -/
def Obligations.DecodeEncodeAgree : Prop :=
  ∀ (i : Instr) (rest : List Byte), i.WellFormed = true → decode (encode i ++ rest) = .ok (i, rest)

/-- Any three bytes decode to an instruction whose bytes are the first 1, 2 or 3 of them, as many as the first byte
says. (Derived from 30_encoding.md R75, R77, R84, R85, R88.) -/
def Obligations.EncodeDecodeAgree : Prop :=
  ∀ op b1 b2 : Byte,
    encode (decodeBytes op b1 b2) = [op, b1, b2].take (lengthOfOpcode op) ∧
      1 ≤ lengthOfOpcode op ∧ lengthOfOpcode op ≤ 3 ∧ (op = 0xCB → lengthOfOpcode op = 2)

/-- Register codes, pair views and F: what a write of each reads back as, and what it leaves alone. (R22, R23, R24,
R25.) -/
def Obligations.RegisterViews : Prop :=
  (∀ (s : State) (r q : R8) (v : Byte), (s.setR8 r v).r8 q = if q = r then v else s.r8 q) ∧
  (∀ (s : State) (v : Byte), s.readLoc .atHl = busRead s s.hl ∧ s.writeLoc .atHl v = busWrite s s.hl v) ∧
  (∀ s : State, s.bc = mkWord s.regs.b s.regs.c ∧ s.de = mkWord s.regs.d s.regs.e ∧ s.hl = mkWord s.regs.h s.regs.l ∧
    s.af = mkWord s.regs.a s.regs.f) ∧
  (∀ (s : State) (p : R16) (v : Word), (s.setR16 p v).r16 p = v ∧ ∀ q : R16, q ≠ p → (s.setR16 p v).r16 q = s.r16 q) ∧
  (∀ (s : State) (p : Q16) (v : Word), (s.setQ16 p v).q16 p = if p = .af then v &&& 0xFFF0 else v) ∧
  (∀ (s : State) (v : Byte), (s.setF v).regs.f = v &&& 0xF0 ∧ (s.setF v).regs.f &&& 0x0F = 0) ∧
  (∀ s : State, s.flagZ = s.regs.f.getLsbD 7 ∧ s.flagN = s.regs.f.getLsbD 6 ∧ s.flagH = s.regs.f.getLsbD 5 ∧
    s.flagC = s.regs.f.getLsbD 4) ∧
  (∀ z n h c : Bool, (packF z n h c).toNat = 128 * z.toNat + 64 * n.toNat + 32 * h.toNat + 16 * c.toNat) ∧
  [Loc8.reg .b, .reg .c, .reg .d, .reg .e, .reg .h, .reg .l, .atHl, .reg .a].map Loc8.code = [0, 1, 2, 3, 4, 5, 6, 7] ∧
  [R16.bc, .de, .hl, .sp].map R16.code = [0, 1, 2, 3] ∧ [Q16.bc, .de, .hl, .af].map Q16.code = [0, 1, 2, 3]

/-- LD r,r' and LD r,n complete: one register takes the source or the immediate and nothing else changes. (R100,
R101.) Constructors: ldBB, ldBC, ldBD, ldBE, ldBH, ldBL, ldBA, ldCB, ldCC, ldCD, ldCE, ldCH, ldCL, ldCA, ldDB, ldDC,
ldDD, ldDE, ldDH, ldDL, ldDA, ldEB, ldEC, ldED, ldEE, ldEH, ldEL, ldEA, ldHB, ldHC, ldHD, ldHE, ldHH, ldHL, ldHA,
ldLB, ldLC, ldLD, ldLE, ldLH, ldLL, ldLA, ldAB, ldAC, ldAD, ldAE, ldAH, ldAL, ldAA, ldBN, ldCN, ldDN, ldEN, ldHN,
ldLN, ldAN. -/
def Obligations.LoadRegister : Prop :=
  (∀ (dst src : R8) (b1 b2 : Byte) (s : State),
    Completes (decodeBytes (opXYZ 1 dst.code src.code) b1 b2) 1 s (s.setR8 dst (s.r8 src))) ∧
  (∀ (dst : R8) (n b2 : Byte) (s : State), Completes (decodeBytes (opXYZ 0 dst.code 6) n b2) 2 s (s.setR8 dst n))

/-- LD r,(HL), LD (HL),r and LD (HL),n complete with one bus access at HL. (R102, R103, R104.) Constructors: ldBAtHl,
ldCAtHl, ldDAtHl, ldEAtHl, ldHAtHl, ldLAtHl, ldAAtHl, ldAtHlB, ldAtHlC, ldAtHlD, ldAtHlE, ldAtHlH, ldAtHlL, ldAtHlA,
ldAtHlN. -/
def Obligations.LoadStoreAtHl : Prop :=
  (∀ (dst : R8) (b1 b2 : Byte) (s : State),
    Completes (decodeBytes (opXYZ 1 dst.code 6) b1 b2) 2 s (s.setR8 dst (busRead s s.hl))) ∧
  (∀ (src : R8) (b1 b2 : Byte) (s : State),
    Completes (decodeBytes (opXYZ 1 6 src.code) b1 b2) 2 s (busWrite s s.hl (s.r8 src))) ∧
  (∀ (n b2 : Byte) (s : State), Completes (decodeBytes 0x36 n b2) 3 s (busWrite s s.hl n))

/-- Loads and stores of A through BC, DE, an absolute address and the high page complete. (R105, R106, R107, R108,
R109, R110, R112, R113, R114, R115.) Constructors: ldAAtBc, ldAAtDe, ldAtBcA, ldAtDeA, ldAAtNn, ldAtNnA, ldhAAtN,
ldhAtNA, ldAAtC, ldAtCA. -/
def Obligations.LoadStoreAccumulator : Prop :=
  (∀ s : State, Completes .ldAAtBc 2 s { s with regs := { s.regs with a := busRead s (mkWord s.regs.b s.regs.c) } }) ∧
  (∀ s : State, Completes .ldAAtDe 2 s { s with regs := { s.regs with a := busRead s (mkWord s.regs.d s.regs.e) } }) ∧
  (∀ s : State, Completes .ldAtBcA 2 s (busWrite s (mkWord s.regs.b s.regs.c) s.regs.a)) ∧
  (∀ s : State, Completes .ldAtDeA 2 s (busWrite s (mkWord s.regs.d s.regs.e) s.regs.a)) ∧
  (∀ (nn : Word) (s : State), Completes (.ldAAtNn nn) 4 s { s with regs := { s.regs with a := busRead s nn } }) ∧
  (∀ (nn : Word) (s : State), Completes (.ldAtNnA nn) 4 s (busWrite s nn s.regs.a)) ∧
  (∀ (n : Byte) (s : State),
    Completes (.ldhAAtN n) 3 s { s with regs := { s.regs with a := busRead s (mkWord 0xFF n) } }) ∧
  (∀ (n : Byte) (s : State), Completes (.ldhAtNA n) 3 s (busWrite s (mkWord 0xFF n) s.regs.a)) ∧
  (∀ s : State, Completes .ldAAtC 2 s { s with regs := { s.regs with a := busRead s (mkWord 0xFF s.regs.c) } }) ∧
  (∀ s : State, Completes .ldAtCA 2 s (busWrite s (mkWord 0xFF s.regs.c) s.regs.a))

/-- LD A,(HL+), LD A,(HL-), LD (HL+),A and LD (HL-),A complete: the access at HL, then HL moves by one and wraps.
(R116, R117, R118, R119.) Constructors: ldAAtHlInc, ldAAtHlDec, ldAtHlIncA, ldAtHlDecA. -/
def Obligations.LoadStoreAutoHl : Prop :=
  (∀ s : State, Completes .ldAAtHlInc 2 s
    { s with regs := { s.regs with a := busRead s s.hl, h := hiByte (s.hl + 1), l := loByte (s.hl + 1) } }) ∧
  (∀ s : State, Completes .ldAAtHlDec 2 s
    { s with regs := { s.regs with a := busRead s s.hl, h := hiByte (s.hl - 1), l := loByte (s.hl - 1) } }) ∧
  (∀ s : State, Completes .ldAtHlIncA 2 s
    { busWrite s s.hl s.regs.a with regs := { s.regs with h := hiByte (s.hl + 1), l := loByte (s.hl + 1) } }) ∧
  (∀ s : State, Completes .ldAtHlDecA 2 s
    { busWrite s s.hl s.regs.a with regs := { s.regs with h := hiByte (s.hl - 1), l := loByte (s.hl - 1) } })

/-- LD rr,nn, LD SP,HL and LD (nn),SP complete. (R127, R128, R129.) Constructors: ldBcNn, ldDeNn, ldHlNn, ldSpNn,
ldSpHl, ldAtNnSp. -/
def Obligations.LoadPairs : Prop :=
  (∀ (p : R16) (lo hi : Byte) (s : State),
    Completes (decodeBytes (opXPQZ 0 p.code 0 1) lo hi) 3 s (s.setR16 p (mkWord hi lo))) ∧
  (∀ s : State, Completes .ldSpHl 2 s { s with regs := { s.regs with sp := s.hl } }) ∧
  (∀ (nn : Word) (s : State),
    Completes (.ldAtNnSp nn) 5 s (busWrite (busWrite s nn (loByte s.sp)) (nn + 1) (hiByte s.sp)))

/-- PUSH and POP complete: the byte order on the stack, SP by two, and AF with F masked. (R131, R132, R133, R134,
R135.) Constructors: pushBc, pushDe, pushHl, pushAf, popBc, popDe, popHl, popAf. -/
def Obligations.PushAndPop : Prop :=
  (∀ (p : Q16) (b1 b2 : Byte) (s : State),
    Completes (decodeBytes (opXPQZ 3 p.code 0 5) b1 b2) 4 s
      { busWrite (busWrite s (s.sp - 1) (hiByte (s.q16 p))) (s.sp - 2) (loByte (s.q16 p)) with
        regs := { s.regs with sp := s.sp - 2 } }) ∧
  (∀ (p : Q16) (b1 b2 : Byte) (s : State),
    Completes (decodeBytes (opXPQZ 3 p.code 0 1) b1 b2) 3 s
      ((s.setSp (s.sp + 2)).setQ16 p (mkWord (busRead s (s.sp + 1)) (busRead s s.sp)))) ∧
  (∀ (v : Word) (s : State), (s.setQ16 .af v).regs = { s.regs with a := hiByte v, f := loByte v &&& 0xF0 }) ∧
  (∀ (v : Word) (s : State), push16 s v =
    { busWrite (busWrite s (s.sp - 1) (hiByte v)) (s.sp - 2) (loByte v) with regs := { s.regs with sp := s.sp - 2 } })

/-- A value pushed into RAM is the value popped, with SP back where it was. (Derived from 41_load16.md R131, R132;
20_memory.md R59, R60, R67.) -/
def Obligations.PushThenPopGivesBack : Prop :=
  ∀ (s : State) (v : Word), s.params.bus = .spec → s.ram.wf = true → ramKey (s.sp - 1) ≠ none → ramKey (s.sp - 2) ≠ none →
    popWord (push16 s v) = v ∧ (popSp (push16 s v)).sp = s.sp

/-- ADD SP,e and LD HL,SP+e complete: the signed sum, with H and C from the unsigned low-byte sum. (R130, R190,
R192.) Constructors: addSpE, ldHlSpE. -/
def Obligations.SpPlusOffset : Prop :=
  ∀ (e : Byte) (s : State),
    Completes (.addSpE e) 4 s
      { s with regs := { s.regs with
          sp := BitVec.ofInt 16 (s.sp.toNat + e.toInt)
          f := packF false false (0x0F < (s.sp &&& 0x000F).toNat + (e &&& 0x0F).toNat)
            (0xFF < (s.sp &&& 0x00FF).toNat + e.toNat) } } ∧
    Completes (.ldHlSpE e) 3 s
      { s with regs := { s.regs with
          h := hiByte (BitVec.ofInt 16 (s.sp.toNat + e.toInt))
          l := loByte (BitVec.ofInt 16 (s.sp.toNat + e.toInt))
          f := packF false false (0x0F < (s.sp &&& 0x000F).toNat + (e &&& 0x0F).toNat)
            (0xFF < (s.sp &&& 0x00FF).toNat + e.toNat) } }

/-- ADD and ADC complete on every operand form, with add8's result and flags. (R141, R144, R145, R146, R147, R148,
R149.) Constructors: addAB, addAC, addAD, addAE, addAH, addAL, addAAtHl, addAA, addAN, adcAB, adcAC, adcAD, adcAE,
adcAH, adcAL, adcAAtHl, adcAA, adcAN. -/
def Obligations.AddAndAdc : Prop :=
  (∀ (l : Loc8) (b1 b2 : Byte) (s : State),
    Completes (decodeBytes (opXYZ 2 0 l.code) b1 b2) (locCycles l 1 2) s (afterAdd s (s.readLoc l) false) ∧
    Completes (decodeBytes (opXYZ 2 1 l.code) b1 b2) (locCycles l 1 2) s (afterAdd s (s.readLoc l) s.flagC)) ∧
  (∀ (n b2 : Byte) (s : State),
    Completes (decodeBytes (opXYZ 3 0 6) n b2) 2 s (afterAdd s n false) ∧
    Completes (decodeBytes (opXYZ 3 1 6) n b2) 2 s (afterAdd s n s.flagC))

/-- SUB and SBC complete on every operand form, with sub8's result and flags. (R142, R150, R151, R152, R153, R154,
R155.) Constructors: subB, subC, subD, subE, subH, subL, subAtHl, subA, subN, sbcAB, sbcAC, sbcAD, sbcAE, sbcAH,
sbcAL, sbcAAtHl, sbcAA, sbcAN. -/
def Obligations.SubAndSbc : Prop :=
  (∀ (l : Loc8) (b1 b2 : Byte) (s : State),
    Completes (decodeBytes (opXYZ 2 2 l.code) b1 b2) (locCycles l 1 2) s (afterSub s (s.readLoc l) false) ∧
    Completes (decodeBytes (opXYZ 2 3 l.code) b1 b2) (locCycles l 1 2) s (afterSub s (s.readLoc l) s.flagC)) ∧
  (∀ (n b2 : Byte) (s : State),
    Completes (decodeBytes (opXYZ 3 2 6) n b2) 2 s (afterSub s n false) ∧
    Completes (decodeBytes (opXYZ 3 3 6) n b2) 2 s (afterSub s n s.flagC))

/-- AND, XOR and OR complete on every operand form. (R143, R156, R157, R158, R159, R160, R161, R162, R163, R164.)
Constructors: andB, andC, andD, andE, andH, andL, andAtHl, andA, andN, xorB, xorC, xorD, xorE, xorH, xorL, xorAtHl,
xorA, xorN, orB, orC, orD, orE, orH, orL, orAtHl, orA, orN. -/
def Obligations.LogicForms : Prop :=
  (∀ (l : Loc8) (b1 b2 : Byte) (s : State),
    Completes (decodeBytes (opXYZ 2 4 l.code) b1 b2) (locCycles l 1 2) s (afterLogic s (s.regs.a &&& s.readLoc l) true) ∧
    Completes (decodeBytes (opXYZ 2 5 l.code) b1 b2) (locCycles l 1 2) s (afterLogic s (s.regs.a ^^^ s.readLoc l) false) ∧
    Completes (decodeBytes (opXYZ 2 6 l.code) b1 b2) (locCycles l 1 2) s (afterLogic s (s.regs.a ||| s.readLoc l) false)) ∧
  (∀ (n b2 : Byte) (s : State),
    Completes (decodeBytes (opXYZ 3 4 6) n b2) 2 s (afterLogic s (s.regs.a &&& n) true) ∧
    Completes (decodeBytes (opXYZ 3 5 6) n b2) 2 s (afterLogic s (s.regs.a ^^^ n) false) ∧
    Completes (decodeBytes (opXYZ 3 6 6) n b2) 2 s (afterLogic s (s.regs.a ||| n) false))

/-- CP completes on every operand form: the flags of a subtraction, and A as it was. (R165, R166, R167.)
Constructors: cpB, cpC, cpD, cpE, cpH, cpL, cpAtHl, cpA, cpN. -/
def Obligations.CompareForms : Prop :=
  (∀ (l : Loc8) (b1 b2 : Byte) (s : State),
    Completes (decodeBytes (opXYZ 2 7 l.code) b1 b2) (locCycles l 1 2) s (afterSubWith s s.regs.a (s.readLoc l) false)) ∧
  (∀ (n b2 : Byte) (s : State), Completes (decodeBytes (opXYZ 3 7 6) n b2) 2 s (afterSubWith s s.regs.a n false)) ∧
  (∀ (v : Byte) (s : State),
    ((afterSubWith s s.regs.a v false).flagZ = true ↔ s.regs.a = v) ∧
    ((afterSubWith s s.regs.a v false).flagC = true ↔ s.regs.a.toNat < v.toNat))

/-- INC and DEC complete on a register and on the byte at HL, and leave C alone. (R168, R169, R170, R171.)
Constructors: incB, decB, incC, decC, incD, decD, incE, decE, incH, decH, incL, decL, incAtHl, decAtHl, incA, decA.
-/
def Obligations.IncAndDec : Prop :=
  ∀ (l : Loc8) (b1 b2 : Byte) (s : State),
    Completes (decodeBytes (opXYZ 0 l.code 4) b1 b2) (locCycles l 1 3) s
      ((s.writeLoc l (BitVec.ofNat 8 ((s.readLoc l).toNat + 1))).setFlags ((s.readLoc l).toNat = 0xFF) false
        (s.readLoc l &&& 0x0F = 0x0F) s.flagC) ∧
    Completes (decodeBytes (opXYZ 0 l.code 5) b1 b2) (locCycles l 1 3) s
      ((s.writeLoc l (BitVec.ofInt 8 ((s.readLoc l).toNat - 1))).setFlags ((s.readLoc l).toNat = 1) true
        (s.readLoc l &&& 0x0F = 0x00) s.flagC)

/-- DAA, CPL, SCF and CCF complete: DAA on every A, N, H and C as its two branches say, the others with the flags
they name. (R172, R173, R174, R175.) Constructors: daa, cpl, scf, ccf. -/
def Obligations.AccumulatorAndFlagOps : Prop :=
  ∀ s : State,
    (s.flagN = false → Completes .daa 1 s
      (let high := s.flagC || decide (0x99 < s.regs.a.toNat)
       let low := s.flagH || decide (0x09 < s.regs.a.toNat % 16)
       let r := BitVec.ofNat 8 (s.regs.a.toNat + (if high then 0x60 else 0) + (if low then 0x06 else 0))
       s.withAF r (r = 0) false false high)) ∧
    (s.flagN = true → Completes .daa 1 s
      (let r := BitVec.ofInt 8 (s.regs.a.toNat - (if s.flagC then 0x60 else 0) - (if s.flagH then 0x06 else 0))
       s.withAF r (r = 0) true false s.flagC)) ∧
    Completes .cpl 1 s (s.withAF (0xFF - s.regs.a) s.flagZ true true s.flagC) ∧
    Completes .scf 1 s { s with regs := { s.regs with f := packF s.flagZ false false true } } ∧
    Completes .ccf 1 s { s with regs := { s.regs with f := packF s.flagZ false false (!s.flagC) } }

/-- DAA after adding or subtracting two-digit decimals gives the decimal sum or difference. (Derived from 42_alu8.md
R141, R142, R172.) -/
def Obligations.DaaMakesDecimalSums : Prop :=
  ∀ p q r t : Nat, p < 10 → q < 10 → r < 10 → t < 10 →
    (let o := add8 (BitVec.ofNat 8 (16 * p + q)) (BitVec.ofNat 8 (16 * r + t)) false
     let d := daa8 o.res false o.h o.c
     let sum := 10 * p + q + (10 * r + t)
     d.res.toNat = 16 * (sum % 100 / 10) + sum % 10 ∧ (d.c = true ↔ 100 ≤ sum)) ∧
    (let o := sub8 (BitVec.ofNat 8 (16 * p + q)) (BitVec.ofNat 8 (16 * r + t)) false
     let d := daa8 o.res true o.h o.c
     let diff := 100 + (10 * p + q) - (10 * r + t)
     d.res.toNat = 16 * (diff % 100 / 10) + diff % 10 ∧ (d.c = true ↔ 10 * p + q < 10 * r + t))

/-- ADD HL,rr, INC rr and DEC rr complete for all four pairs. (R191, R193, R194.) Constructors: incBc, addHlBc,
decBc, incDe, addHlDe, decDe, incHl, addHlHl, decHl, incSp, addHlSp, decSp. -/
def Obligations.PairArithmetic : Prop :=
  ∀ (p : R16) (b1 b2 : Byte) (s : State),
    Completes (decodeBytes (opXPQZ 0 p.code 1 1) b1 b2) 2 s
      { s with regs := { s.regs with
          h := hiByte (BitVec.ofNat 16 (s.hl.toNat + (s.r16 p).toNat))
          l := loByte (BitVec.ofNat 16 (s.hl.toNat + (s.r16 p).toNat))
          f := packF s.flagZ false (0x0FFF < (s.hl &&& 0x0FFF).toNat + (s.r16 p &&& 0x0FFF).toNat)
            (0xFFFF < s.hl.toNat + (s.r16 p).toNat) } } ∧
    Completes (decodeBytes (opXPQZ 0 p.code 0 3) b1 b2) 2 s (s.setR16 p (BitVec.ofNat 16 ((s.r16 p).toNat + 1))) ∧
    Completes (decodeBytes (opXPQZ 0 p.code 1 3) b1 b2) 2 s (s.setR16 p (BitVec.ofInt 16 ((s.r16 p).toNat - 1)))

/-- RLCA, RRCA, RLA and RRA complete: the rotated A, C the bit shifted out, Z always 0. (R200, R201, R202, R203.)
Constructors: rlca, rrca, rla, rra. -/
def Obligations.AccumulatorRotates : Prop :=
  ∀ s : State,
    Completes .rlca 1 s (s.withAF (s.regs.a.rotateLeft 1) false false false (s.regs.a.getLsbD 7)) ∧
    Completes .rrca 1 s (s.withAF (s.regs.a.rotateRight 1) false false false (s.regs.a.getLsbD 0)) ∧
    Completes .rla 1 s
      (s.withAF (s.regs.a.extractLsb' 0 7 ++ BitVec.ofBool s.flagC) false false false (s.regs.a.getLsbD 7)) ∧
    Completes .rra 1 s
      (s.withAF (BitVec.ofBool s.flagC ++ s.regs.a.extractLsb' 1 7) false false false (s.regs.a.getLsbD 0))

/-- RLC, RL, SLA and SWAP complete on every register and on the byte at HL. (R205, R206, R209, R210, R213, R214,
R217, R218.) Constructors: rlcB, rlcC, rlcD, rlcE, rlcH, rlcL, rlcAtHl, rlcA, rlB, rlC, rlD, rlE, rlH, rlL, rlAtHl,
rlA, slaB, slaC, slaD, slaE, slaH, slaL, slaAtHl, slaA, swapB, swapC, swapD, swapE, swapH, swapL, swapAtHl, swapA. -/
def Obligations.CbLeftShifts : Prop :=
  ∀ (l : Loc8) (b : Byte) (s : State),
    Completes (decodeBytes 0xCB (opXYZ 0 0 l.code) b) (locCycles l 2 4) s
      (let r : Byte := (s.readLoc l).rotateLeft 1
       (s.writeLoc l r).setFlags (r = 0) false false ((s.readLoc l).getLsbD 7)) ∧
    Completes (decodeBytes 0xCB (opXYZ 0 2 l.code) b) (locCycles l 2 4) s
      (let r : Byte := (s.readLoc l).extractLsb' 0 7 ++ BitVec.ofBool s.flagC
       (s.writeLoc l r).setFlags (r = 0) false false ((s.readLoc l).getLsbD 7)) ∧
    Completes (decodeBytes 0xCB (opXYZ 0 4 l.code) b) (locCycles l 2 4) s
      (let r : Byte := (s.readLoc l).extractLsb' 0 7 ++ 0#1
       (s.writeLoc l r).setFlags (r = 0) false false ((s.readLoc l).getLsbD 7)) ∧
    Completes (decodeBytes 0xCB (opXYZ 0 6 l.code) b) (locCycles l 2 4) s
      (let r : Byte := (s.readLoc l).extractLsb' 0 4 ++ (s.readLoc l).extractLsb' 4 4
       (s.writeLoc l r).setFlags (r = 0) false false false)

/-- RRC, RR, SRA and SRL complete on every register and on the byte at HL. (R207, R208, R211, R212, R215, R216, R219,
R220.) Constructors: rrcB, rrcC, rrcD, rrcE, rrcH, rrcL, rrcAtHl, rrcA, rrB, rrC, rrD, rrE, rrH, rrL, rrAtHl, rrA,
sraB, sraC, sraD, sraE, sraH, sraL, sraAtHl, sraA, srlB, srlC, srlD, srlE, srlH, srlL, srlAtHl, srlA. -/
def Obligations.CbRightShifts : Prop :=
  ∀ (l : Loc8) (b : Byte) (s : State),
    Completes (decodeBytes 0xCB (opXYZ 0 1 l.code) b) (locCycles l 2 4) s
      (let r : Byte := (s.readLoc l).rotateRight 1
       (s.writeLoc l r).setFlags (r = 0) false false ((s.readLoc l).getLsbD 0)) ∧
    Completes (decodeBytes 0xCB (opXYZ 0 3 l.code) b) (locCycles l 2 4) s
      (let r : Byte := BitVec.ofBool s.flagC ++ (s.readLoc l).extractLsb' 1 7
       (s.writeLoc l r).setFlags (r = 0) false false ((s.readLoc l).getLsbD 0)) ∧
    Completes (decodeBytes 0xCB (opXYZ 0 5 l.code) b) (locCycles l 2 4) s
      (let r : Byte := (s.readLoc l).sshiftRight 1
       (s.writeLoc l r).setFlags (r = 0) false false ((s.readLoc l).getLsbD 0)) ∧
    Completes (decodeBytes 0xCB (opXYZ 0 7 l.code) b) (locCycles l 2 4) s
      (let r : Byte := 0#1 ++ (s.readLoc l).extractLsb' 1 7
       (s.writeLoc l r).setFlags (r = 0) false false ((s.readLoc l).getLsbD 0))

/-- BIT, RES and SET complete for every bit of every register and of the byte at HL. (R221, R222, R223, R224, R225,
R226.) Constructors: bit0B, bit0C, bit0D, bit0E, bit0H, bit0L, bit0AtHl, bit0A, bit1B, bit1C, bit1D, bit1E, bit1H,
bit1L, bit1AtHl, bit1A, bit2B, bit2C, bit2D, bit2E, bit2H, bit2L, bit2AtHl, bit2A, bit3B, bit3C, bit3D, bit3E, bit3H,
bit3L, bit3AtHl, bit3A, bit4B, bit4C, bit4D, bit4E, bit4H, bit4L, bit4AtHl, bit4A, bit5B, bit5C, bit5D, bit5E, bit5H,
bit5L, bit5AtHl, bit5A, bit6B, bit6C, bit6D, bit6E, bit6H, bit6L, bit6AtHl, bit6A, bit7B, bit7C, bit7D, bit7E, bit7H,
bit7L, bit7AtHl, bit7A, res0B, res0C, res0D, res0E, res0H, res0L, res0AtHl, res0A, res1B, res1C, res1D, res1E, res1H,
res1L, res1AtHl, res1A, res2B, res2C, res2D, res2E, res2H, res2L, res2AtHl, res2A, res3B, res3C, res3D, res3E, res3H,
res3L, res3AtHl, res3A, res4B, res4C, res4D, res4E, res4H, res4L, res4AtHl, res4A, res5B, res5C, res5D, res5E, res5H,
res5L, res5AtHl, res5A, res6B, res6C, res6D, res6E, res6H, res6L, res6AtHl, res6A, res7B, res7C, res7D, res7E, res7H,
res7L, res7AtHl, res7A, set0B, set0C, set0D, set0E, set0H, set0L, set0AtHl, set0A, set1B, set1C, set1D, set1E, set1H,
set1L, set1AtHl, set1A, set2B, set2C, set2D, set2E, set2H, set2L, set2AtHl, set2A, set3B, set3C, set3D, set3E, set3H,
set3L, set3AtHl, set3A, set4B, set4C, set4D, set4E, set4H, set4L, set4AtHl, set4A, set5B, set5C, set5D, set5E, set5H,
set5L, set5AtHl, set5A, set6B, set6C, set6D, set6E, set6H, set6L, set6AtHl, set6A, set7B, set7C, set7D, set7E, set7H,
set7L, set7AtHl, set7A. -/
def Obligations.BitResSet : Prop :=
  ∀ (y : BitVec 3) (l : Loc8) (b : Byte) (s : State),
    Completes (decodeBytes 0xCB (opXYZ 1 y l.code) b) (locCycles l 2 3) s
      { s with regs := { s.regs with f := packF (!(s.readLoc l).getLsbD y.toNat) false true s.flagC } } ∧
    Completes (decodeBytes 0xCB (opXYZ 2 y l.code) b) (locCycles l 2 4) s
      (s.writeLoc l (s.readLoc l &&& ~~~(BitVec.twoPow 8 y.toNat))) ∧
    Completes (decodeBytes 0xCB (opXYZ 3 y l.code) b) (locCycles l 2 4) s
      (s.writeLoc l (s.readLoc l ||| BitVec.twoPow 8 y.toNat))

/-- Every jump completes: pc is the target, or stays after the instruction when the condition fails. (R80, R240,
R241, R242, R243, R244.) Constructors: jpNn, jpHl, jrE, jpNzNn, jpZNn, jpNcNn, jpCNn, jrNzE, jrZE, jrNcE, jrCE. -/
def Obligations.Jumps : Prop :=
  (∀ s : State, (s.cond .nz = true ↔ s.regs.f.getLsbD 7 = false) ∧ (s.cond .z = true ↔ s.regs.f.getLsbD 7 = true) ∧
    (s.cond .nc = true ↔ s.regs.f.getLsbD 4 = false) ∧ (s.cond .c = true ↔ s.regs.f.getLsbD 4 = true)) ∧
  (∀ (nn : Word) (s : State), Completes (.jpNn nn) 4 s { s with regs := { s.regs with pc := nn } }) ∧
  (∀ s : State, Completes .jpHl 1 s { s with regs := { s.regs with pc := mkWord s.regs.h s.regs.l } }) ∧
  (∀ (e : Byte) (s : State),
    Completes (.jrE e) 3 s { s with regs := { s.regs with pc := BitVec.ofInt 16 (s.pc.toNat + e.toInt) } }) ∧
  (∀ (cc : Cond) (lo hi : Byte) (s : State),
    Completes (decodeBytes (opXYZ 3 (0#1 ++ cc.code) 2) lo hi) (if s.cond cc then 4 else 3) s
      (if s.cond cc then { s with regs := { s.regs with pc := mkWord hi lo } } else s)) ∧
  (∀ (cc : Cond) (e b2 : Byte) (s : State),
    Completes (decodeBytes (opXYZ 0 (1#1 ++ cc.code) 0) e b2) (if s.cond cc then 3 else 2) s
      (if s.cond cc then { s with regs := { s.regs with pc := BitVec.ofInt 16 (s.pc.toNat + e.toInt) } } else s))

/-- CALL, CALL cc and RST complete: the address of the next instruction is pushed and pc is the target. (R245, R246,
R253.) Constructors: callNn, callNzNn, callZNn, callNcNn, callCNn, rst00, rst08, rst10, rst18, rst20, rst28, rst30,
rst38. -/
def Obligations.CallsAndRestarts : Prop :=
  (∀ (nn : Word) (s : State), Completes (.callNn nn) 6 s ((push16 s s.pc).setPc nn)) ∧
  (∀ (cc : Cond) (lo hi : Byte) (s : State),
    Completes (decodeBytes (opXYZ 3 (0#1 ++ cc.code) 4) lo hi) (if s.cond cc then 6 else 3) s
      (if s.cond cc then (push16 s s.pc).setPc (mkWord hi lo) else s)) ∧
  (∀ (y : BitVec 3) (b1 b2 : Byte) (s : State),
    Completes (decodeBytes (opXYZ 3 y 7) b1 b2) 4 s ((push16 s s.pc).setPc (BitVec.ofNat 16 (8 * y.toNat))))

/-- RET, RET cc and RETI complete: pc is popped, and RETI sets IME at once. (R247, R248, R252.) Constructors: ret,
reti, retNz, retZ, retNc, retC. -/
def Obligations.Returns : Prop :=
  (∀ s : State, Completes .ret 4 s
    { s with regs := { s.regs with sp := s.sp + 2, pc := mkWord (busRead s (s.sp + 1)) (busRead s s.sp) } }) ∧
  (∀ (cc : Cond) (b1 b2 : Byte) (s : State),
    Completes (decodeBytes (opXYZ 3 (0#1 ++ cc.code) 0) b1 b2) (if s.cond cc then 5 else 2) s
      (if s.cond cc then
        { s with regs := { s.regs with sp := s.sp + 2, pc := mkWord (busRead s (s.sp + 1)) (busRead s s.sp) } }
       else s)) ∧
  (∀ s : State, Completes .reti 4 s
    { s with
      regs := { s.regs with sp := s.sp + 2, pc := mkWord (busRead s (s.sp + 1)) (busRead s s.sp) }
      intr := { s.intr with ime := true, eiPending := false } })

/-- NOP, DI and EI complete, and the instruction after EI runs with IME set before any interrupt is taken. (R260,
R265, R266.) Constructors: nop, di, ei. -/
def Obligations.NopDiEi : Prop :=
  (∀ s : State, Completes .nop 1 s s) ∧
  (∀ s : State, Completes .di 1 s { s with intr := { s.intr with ime := false, eiPending := false } }) ∧
  (∀ s : State, Completes .ei 1 s { s with intr := { s.intr with eiPending := true } }) ∧
  (∀ s : State, s.fault = none → s.stopped = false → s.halted = false → s.intr.ime = false → s.intr.eiPending = true →
    step s = runInstr { s with intr := { s.intr with ime := true, eiPending := false } })

/-- HALT and STOP complete: HALT halts, or sets the latch where the HALT bug applies; STOP stops and resets the
divider. (R262, R263.) Constructors: halt, stop. -/
def Obligations.HaltAndStop : Prop :=
  (∀ s : State, Completes .halt 1 s
    (if s.params.haltBug = true ∧ s.intr.ime = false ∧ s.intr.ie &&& s.intr.ifl.setWidth 8 &&& 0x1F ≠ 0 then
      { s with haltBugLatch := true }
     else { s with halted := true })) ∧
  (∀ (x : Byte) (s : State), Completes (.stop x) 1 s
    { s with stopped := true, timer := { s.timer with divCounter := 0 } })

/-- 0xCB and the byte after it are one instruction, the CB-page row of that byte, with its result and cost. (R267.)
Constructors: prefixCb. -/
def Obligations.PrefixSelectsCbPage : Prop :=
  ∀ (o b : Byte) (s : State), ∃ t : State,
    Completes (.prefixCb o) (if o &&& 7 ≠ 6 then 2 else if o.extractLsb' 6 2 = 1 then 3 else 4) s t ∧
    Completes (decodeBytes 0xCB o b) (if o &&& 7 ≠ 6 then 2 else if o.extractLsb' 6 2 = 1 then 3 else 4) s t

/-- The eleven illegal opcodes fault in every state, and every other opcode completes in every state. (R87.)
Constructors: illegalD3, illegalDB, illegalDD, illegalE3, illegalE4, illegalEB, illegalEC, illegalED, illegalF4,
illegalFC, illegalFD. -/
def Obligations.OnlyIllegalOpcodesStop : Prop :=
  ∀ (op b1 b2 : Byte) (s : State),
    (op ∈ ([0xD3, 0xDB, 0xDD, 0xE3, 0xE4, 0xEB, 0xEC, 0xED, 0xF4, 0xFC, 0xFD] : List Byte) →
      exec (decodeBytes op b1 b2) s = .fault (.illegalInstruction { opcode := op, pc := s.pc - 1 })) ∧
    (op ∉ ([0xD3, 0xDB, 0xDD, 0xE3, 0xE4, 0xEB, 0xEC, 0xED, 0xF4, 0xFC, 0xFD] : List Byte) →
      ∃ t, exec (decodeBytes op b1 b2) s = .next t)

/-- Frame of memory, for every instruction: only the bytes its stores touch may read differently. (Derived from
20_memory.md R52, R53, R56, R58, R64; 40_load8.md; 41_load16.md; 42_alu8.md R169, R171; 44_rotate_shift_bit.md R204;
45_control_transfer.md R245, R246, R253; notes/assumptions logs 10, 37.) MODEL'S CHOICE: through `touches` this says
that a store to a register of the platform's own, 0xFF46 (OAM DMA) among them, leaves everything but the platform's
own reads alone; R341 of 60_exceptions.md leaves that to BUS, and it is the choice of log 10 (DESIGN CHOICE, unsafe).
Which addresses a BUS given in place of the spec's may touch is log 37. -/
def Obligations.MemoryFrame : Prop :=
  ∀ (i : Instr) (s t : State), exec i s = .next t →
    ∀ b : Word, (∀ a ∈ storeAddrs i s, touches s.params.bus a b = false) →
      (∀ x, i = .stop x → divTouches s.params.bus b = false) → busRead t b = busRead s b

/-- Frame of the registers, for every instruction: only its destination registers change, SP only where the rules
say. (Derived from 10_state.md R21, R27, R28; 40_load8.md; 41_load16.md; 42_alu8.md; 43_alu16.md;
44_rotate_shift_bit.md; 45_control_transfer.md.) -/
def Obligations.RegisterFrame : Prop :=
  ∀ (i : Instr) (s t : State), exec i s = .next t →
    (∀ r : R8, r ∉ writtenRegs i → t.r8 r = s.r8 r) ∧ (writesSp i = false → t.sp = s.sp)

/-- Frame of the flags, for every instruction: exactly the flags the table marks unchanged stay, and F's low nibble
stays 0. (Derived from 10_state.md R25, R26; 30_encoding.md R92; 40_load8.md R111; 41_load16.md R126; 42_alu8.md;
43_alu16.md; 44_rotate_shift_bit.md; 45_control_transfer.md.) -/
def Obligations.FlagFrame : Prop :=
  ∀ (i : Instr) (s t : State), exec i s = .next t →
    t.regs.f &&& keptFlags i = s.regs.f &&& keptFlags i ∧ (s.regs.f &&& 0x0F = 0 → t.regs.f &&& 0x0F = 0) ∧
      (keptFlags i = 0xF0 → t.regs.f = s.regs.f)

/-- Frame of the system state, for every instruction: control, images and parameters stay; IME, halted, stopped, the
latch change only where the rules say. (Derived from 10_state.md R30, R33, R34, R36, R37; 60_exceptions.md R301,
R304; 20_memory.md R56.) -/
def Obligations.SystemFrame : Prop :=
  ∀ (i : Instr) (s t : State), exec i s = .next t →
    sameControl s t ∧
    (writesIme i = false → t.intr.ime = s.intr.ime ∧ t.intr.eiPending = s.intr.eiPending) ∧
    (i ≠ .halt → t.halted = s.halted ∧ t.haltBugLatch = s.haltBugLatch) ∧
    ((∀ x, i ≠ .stop x) → t.stopped = s.stopped) ∧
    (storeAddrs i s = [] → (∀ x, i ≠ .stop x) →
      t.intr.ie = s.intr.ie ∧ t.intr.ifl = s.intr.ifl ∧ t.timer = s.timer ∧ t.ppu = s.ppu ∧ t.apu = s.apu ∧ t.mbc = s.mbc ∧ t.own = s.own)

/-- A step runs the decoded instruction: exec of it with pc past its bytes, then one platform tick of its cycles.
(Derived from 60_exceptions.md R291, R298; 30_encoding.md R86; 10_state.md R28, R34.) -/
def Obligations.StepRunsDecodedInstruction : Prop :=
  ∀ (s : State) (i : Instr) (rest : List Byte), aboutToFetch s → s.haltBugLatch = false →
    decode [busRead s s.pc, busRead s (s.pc + 1), busRead s (s.pc + 2)] = .ok (i, rest) →
    step s = tickAfter (exec i ((endEiDelay s).setPc (s.pc + BitVec.ofNat 16 (3 - rest.length))))
      (instrCycles i ((endEiDelay s).setPc (s.pc + BitVec.ofNat 16 (3 - rest.length))))

/-- The HALT bug's latch: the next opcode fetch does not advance pc and clears the latch. (R35.) -/
def Obligations.HaltBugFetchesTwice : Prop :=
  (∀ s : State, aboutToFetch s → s.haltBugLatch = true → isIllegal (busRead s s.pc) = false →
    let i := decodeBytes (busRead s s.pc) (busRead s s.pc) (busRead s (s.pc + 1))
    let u := ({ endEiDelay s with haltBugLatch := false }).setPc (s.pc + BitVec.ofNat 16 (lengthOfOpcode (busRead s s.pc) - 1))
    step s = tickAfter (exec i u) (instrCycles i u)) ∧
  (∀ s t : State, step s = .next t → s.haltBugLatch = false → t.haltBugLatch = true →
    s.params.haltBug = true ∧ busRead s s.pc = 0x76 ∧ s.intr.ime = false ∧ s.intr.eiPending = false ∧ pending s = true)

/-- Dispatch: with IME set the step takes the lowest-numbered enabled and requested source, halted or not. (R289,
R292, R293.) -/
def Obligations.DispatchTakesHighest : Prop :=
  (∀ (s : State) (k : Nat), s.fault = none → s.stopped = false → s.intr.ime = true → k < 5 →
    s.intr.ie.getLsbD k = true → s.intr.ifl.getLsbD k = true →
    (∀ j, j < k → (s.intr.ie.getLsbD j && s.intr.ifl.getLsbD j) = false) →
    step s = .next (platformTick
      ((push16
        { s with
          halted := false
          intr := { s.intr with ime := false, eiPending := false, ifl := s.intr.ifl &&& ~~~(BitVec.twoPow 5 k) } }
        s.pc).setPc (BitVec.ofNat 16 (0x40 + 8 * k))) 5)) ∧
  (∀ s : State, aboutToFetch s → step s = runInstr (endEiDelay s))

/-- Frame of dispatch: only pc is saved, on the stack; no register but SP and pc changes and no byte outside the two
stack slots. (Derived from 60_exceptions.md R293, R294; notes/assumptions logs 10, 37.) MODEL'S CHOICE: through
`touches` this says that a stack slot at a register of the platform's own (SP = 0xFF47 stores at 0xFF46) leaves OAM
and the rest alone, which is the choice of log 10 (DESIGN CHOICE, unsafe); of a BUS given in place of the spec's, log
37. -/
def Obligations.DispatchFrame : Prop :=
  ∀ s : State,
    (takeInterrupt s).regs = { s.regs with sp := s.sp - 2, pc := BitVec.ofNat 16 (0x40 + 8 * highest s) } ∧
    (takeInterrupt s).intr.ime = false ∧ (takeInterrupt s).intr.eiPending = false ∧ sameControl s (takeInterrupt s) ∧
    ∀ b : Word, b ≠ 0xFF0F → touches s.params.bus (s.sp - 1) b = false → touches s.params.bus (s.sp - 2) b = false →
      busRead (takeInterrupt s) b = busRead s b

/-- HALT idles until a source is pending whatever IME is; STOP is stuck until STOP_WAKE. (Derived from
46_cpu_control.md R264; 60_exceptions.md R297; notes/assumptions log 6.) MODEL'S CHOICE: R264 has STOP_WAKE as `a
predicate on the machine state`; that it is given as bits of a byte the bus reads, or as a negation, conjunction or
disjunction of predicates, is log 6 (DESIGN CHOICE). -/
def Obligations.SleepAndWake : Prop :=
  (∀ s : State, s.fault = none → s.stopped = false → s.halted = true → pending s = false →
    step s = .next (platformTick s 1)) ∧
  (∀ s : State, s.fault = none → s.stopped = false → s.halted = true → pending s = true →
    step s = step { s with halted := false }) ∧
  (∀ s : State, s.fault = none → s.stopped = true → stopWake s = false → step s = .fault .stuck) ∧
  (∀ s : State, s.fault = none → s.stopped = true → stopWake s = true → step s = step { s with stopped := false }) ∧
  (∀ s : State, s.params.stopWake = Params.default.stopWake → stopWake s = s.intr.ifl.getLsbD 4) ∧
  (∀ (s : State) (a : Word) (mask : Byte), s.params.stopWake = .bits a mask →
    (stopWake s = true ↔ ∃ k : Nat, k < 8 ∧ mask.getLsbD k = true ∧ (busRead s a).getLsbD k = true)) ∧
  (∀ (s : State) (p q : WakePredicate),
    wakeHolds (.not p) s = !wakeHolds p s ∧ wakeHolds (.and p q) s = (wakeHolds p s && wakeHolds q s) ∧
    wakeHolds (.or p q) s = (wakeHolds p s || wakeHolds q s) ∧ (s.params.stopWake = p → stopWake s = wakeHolds p s)) ∧
  (∀ s : State, pending s = true ↔ s.intr.ie &&& s.intr.ifl.setWidth 8 &&& 0x1F ≠ 0)

/-- An illegal opcode faults precisely, the run stops with the state before the step, and no step is taken
afterwards. (Derived from 10_state.md R36; 46_cpu_control.md R261; 60_exceptions.md R281, R291, R321;
notes/assumptions log 8.) MODEL'S CHOICE: R36, R281 and R291 say that no step is taken from a state with a fault
recorded; that a step, and a run call, from such a state answers that same fault again is log 8 (DEDUCED). -/
def Obligations.IllegalFaultIsPreciseAndFinal : Prop :=
  (∀ s : State, aboutToFetch s → busRead s s.pc ∈ illegalOpcodes →
    step s = .fault (.illegalInstruction { opcode := busRead s s.pc, pc := s.pc }) ∧
    ∀ n : Nat, s.ctl.running = true →
      run (n + 1) s = ({ s with fault := some { opcode := busRead s s.pc, pc := s.pc }, ctl := { s.ctl with running := false } },
        .faulted)) ∧
  (∀ (s : State) (info : IllegalInstruction) (n : Nat), s.fault = some info →
    step s = .fault (.illegalInstruction info) ∧
    (s.ctl.running = true → run (n + 1) s = ({ s with ctl := { s.ctl with running := false } }, .faulted))) ∧
  (∀ s t : State, step s = .next t → s.fault = none ∧ t.fault = none)

/-- A step takes 1 to 6 M-cycles by the default table to a next state, or stops on a recorded fault, an illegal
opcode or in STOP; it never refuses. (Derived from 60_exceptions.md R280, R282, R283, R291, R298; 00_scope.md R11;
70_reset_and_hazards.md R379, R383, R384; notes/assumptions logs 8, 9.) MODEL'S CHOICE: that a recorded fault is
answered again is log 8 (DEDUCED), and that Stuck is a fault of the step is log 9 (DESIGN CHOICE). -/
def Obligations.StepOutcomesAndCost : Prop :=
  ∀ s : State,
    (∃ t, step s = .next t ∧ (s.params.cycles = CycleTable.default →
      s.ctl.totalCycles + 1 ≤ t.ctl.totalCycles ∧ t.ctl.totalCycles ≤ s.ctl.totalCycles + 6)) ∨
    (∃ info, step s = .fault (.illegalInstruction info) ∧ (s.fault = some info ∨ isIllegal (busRead s s.pc) = true)) ∨
    (step s = .fault .stuck ∧ s.stopped = true ∧ stopWake s = false)

/-- Over every step: IME becomes 1 only by a pending EI or by RETI, and 0 only by dispatch or DI. (Derived from
10_state.md R30, R34; 60_exceptions.md R301; 70_reset_and_hazards.md R374.) -/
def Obligations.WhoWritesIme : Prop :=
  ∀ s t : State, step s = .next t →
    (s.intr.ime = false → t.intr.ime = true → s.intr.eiPending = true ∨ busRead s s.pc = 0xD9) ∧
    (s.intr.ime = true → t.intr.ime = false → pending s = true ∨ busRead s s.pc = 0xF3)

/-- PLATFORM_TICK advances the timer, the PPU, the APU and the cycle count, sets requests, clears none, and leaves
the engine and memory alone. (Derived from 60_exceptions.md R298, R299, R302, R305; 00_scope.md R7; notes/assumptions
logs 11, 37.) That the platform's own requests come from a list in State, one entry a tick, is the model's choice
(log 11, DESIGN CHOICE). -/
def Obligations.DevicesOnlySetRequests : Prop :=
  (∀ (s : State) (c : Nat),
    (∀ k : Nat, s.intr.ifl.getLsbD k = true → (platformTick s c).intr.ifl.getLsbD k = true) ∧
    (platformTick s c).intr = { s.intr with ifl := (platformTick s c).intr.ifl } ∧
    (platformTick s c).ctl = { s.ctl with totalCycles := s.ctl.totalCycles + c } ∧
    (platformTick s c).regs = s.regs ∧ (platformTick s c).ram = s.ram ∧ (platformTick s c).extRam = s.extRam ∧
    (platformTick s c).waveRam = s.waveRam ∧ (platformTick s c).rom = s.rom ∧ (platformTick s c).mbc = s.mbc ∧
    (platformTick s c).halted = s.halted ∧ (platformTick s c).stopped = s.stopped) ∧
  (∀ (s : State) (c : Nat), s.params.tick = .spec →
    (platformTick s c).timer = (timerTick s.timer 0 c).1 ∧ (platformTick s c).ppu = (ppuTick s.ppu 0 (4 * c)).1 ∧
    (platformTick s c).apu = apuTick s.params.apu s.apu c ∧ (platformTick s c).requests = s.requests.tail ∧
    ∀ k : Nat, (platformTick s c).intr.ifl.getLsbD k = true ↔
      s.intr.ifl.getLsbD k = true ∨ (timerTick s.timer 0 c).2.getLsbD k = true ∨ (ppuTick s.ppu 0 (4 * c)).2.getLsbD k = true ∨
      (k = 3 ∧ ∃ r : PlatformRequest, s.requests.head? = some r ∧ r.serial = true) ∨
      (k = 4 ∧ ∃ r : PlatformRequest, s.requests.head? = some r ∧ r.joypad = true))

/-- The bus by region: RAM is read after write, echo mirrors, the unusable region and disabled RAM read fixed values
and drop writes. (R54, R55, R57, R59.) -/
def Obligations.BusRegions : Prop :=
  (∀ (s : State) (a : Word) (v : Byte), s.params.bus = .spec → s.ram.wf = true → ramKey a ≠ none → busRead (busWrite s a v) a = v) ∧
  (∀ (s : State) (a : Word) (v : Byte), s.params.bus = .spec → 0xE000 ≤ a.toNat → a.toNat < 0xFE00 →
    busRead s a = busRead s (a - 0x2000) ∧ busWrite s a v = busWrite s (a - 0x2000) v) ∧
  (∀ (s : State) (a : Word) (v : Byte), s.params.bus = .spec → 0xFEA0 ≤ a.toNat → a.toNat < 0xFF00 →
    busRead s a = s.params.unusableRead ∧ busWrite s a v = s) ∧
  (∀ (s : State) (a : Word) (v : Byte), s.params.bus = .spec → 0xA000 ≤ a.toNat → a.toNat < 0xC000 → s.mbc.ramEnabled = false →
    busRead s a = 0xFF ∧ busWrite s a v = s) ∧
  (∀ (s : State) (a : Word) (v : Byte), s.params.bus = .spec →
    (0xC000 ≤ a.toNat ∧ a.toNat < 0xE000) ∨ (0xFF80 ≤ a.toNat ∧ a.toNat < 0xFFFF) →
      busRead s a = s.ram.read a.toNat ∧ busWrite s a v = { s with ram := s.ram.write a.toNat v })

/-- IE at 0xFFFF stores all eight bits; IF at 0xFF0F stores five and reads the upper three as 1. (R31, R32.) -/
def Obligations.InterruptRegistersOnTheBus : Prop :=
  ∀ (s : State) (v : Byte),
    busWrite s 0xFFFF v = { s with intr := { s.intr with ie := v } } ∧ busRead s 0xFFFF = s.intr.ie ∧
    busWrite s 0xFF0F v = { s with intr := { s.intr with ifl := v.setWidth 5 } } ∧
    busRead s 0xFF0F = 0xE0 ||| s.intr.ifl.setWidth 8

/-- No step changes a ROM byte: a write below 0x8000 is a command to the MBC alone. (R56.) -/
def Obligations.RomNeverChanges : Prop :=
  (∀ (s : State) (a : Word) (v : Byte), s.params.bus = .spec → a.toNat < 0x8000 →
    busWrite s a v = { s with mbc := (busWrite s a v).mbc }) ∧
  (∀ s t : State, step s = .next t → t.rom = s.rom ∧ t.bootRom = s.bootRom) ∧
  (∀ (s : State) (a b : Word) (v : Byte), s.params.bus = .spec → b.toNat < 0x4000 → s.bootOverlay = false →
    busRead (busWrite s a v) b = s.rom.read b.toNat) ∧
  (∀ (s : State) (b : Word), s.params.bus = .spec → 0x4000 ≤ b.toNat → b.toNat < 0x8000 →
    busRead s b = s.rom.read (s.mbc.romBank.toNat % s.params.romBanks * 0x4000 + (b.toNat - 0x4000)))

/-- MBC1: a bank number written selects that number modulo the banks present, 0 selects 1, and the low window stays.
(Derived from 60_exceptions.md R360; 20_memory.md R56; 93_implementation_defined.md G9; notes/assumptions log 22.)
MODEL'S CHOICE: that a write to 0x2000-0x3FFF keeps the bank's upper two bits is log 22 (PRESUMED). -/
def Obligations.BankSelectIsModulo : Prop :=
  ∀ (s : State) (a b : Word) (v : Byte), s.params.bus = .spec → s.params.mbcType = .mbc1 →
    (0x2000 ≤ a.toNat → a.toNat < 0x4000 → 0x4000 ≤ b.toNat → b.toNat < 0x8000 →
      busRead (busWrite s a v) b =
        s.rom.read ((32 * (s.mbc.romBank.toNat / 32) + (if v.toNat % 32 = 0 then 1 else v.toNat % 32)) % s.params.romBanks * 0x4000
          + (b.toNat - 0x4000))) ∧
    (a.toNat < 0x2000 → ((busWrite s a v).mbc.ramEnabled = true ↔ v.toNat % 16 = 0xA)) ∧
    (a.toNat < 0x8000 → b.toNat < 0x4000 → busRead (busWrite s a v) b = busRead s b)

/-- The timer: the divider always advances; the sub-counter takes one period off at a time, with reload and request
on overflow. (R311, R312, R315.) -/
def Obligations.TimerTick : Prop :=
  (∀ (t : Timer) (ifl : BitVec 5) (c : Nat),
    (timerTick t ifl c).1.divCounter = BitVec.ofNat 16 (t.divCounter.toNat + c) ∧
    t.div.toNat = t.divCounter.toNat / 64 % 256 ∧
    (t.tac.getLsbD 2 = false → timerTick t ifl c = ({ t with divCounter := BitVec.ofNat 16 (t.divCounter.toNat + c) }, ifl))) ∧
  (∀ (t : Timer) (ifl : BitVec 5) (c : Nat), t.sub + c < t.period → timerAdvance t ifl c = ({ t with sub := t.sub + c }, ifl)) ∧
  (∀ (t : Timer) (ifl : BitVec 5) (c : Nat), t.period ≤ t.sub + c →
    timerAdvance t ifl c =
      if t.tima = 0xFF then timerAdvance { t with sub := t.sub + c - t.period, tima := t.tma } (ifl ||| 0b00100) 0
      else timerAdvance { t with sub := t.sub + c - t.period, tima := t.tima + 1 } ifl 0) ∧
  (∀ (t : Timer) (ifl : BitVec 5) (c : Nat), t.tac.getLsbD 2 = true →
    timerTick t ifl c = timerAdvance { t with divCounter := BitVec.ofNat 16 (t.divCounter.toNat + c) } ifl c) ∧
  (∀ (s : State) (v : Byte), s.params.bus = .spec →
    busWrite s 0xFF04 v = { s with timer := { s.timer with divCounter := 0 } } ∧
    busWrite s 0xFF05 v = { s with timer := { s.timer with tima := v } } ∧
    busWrite s 0xFF06 v = { s with timer := { s.timer with tma := v } } ∧
    busWrite s 0xFF07 v = { s with timer := { s.timer with tac := v.setWidth 3 } })

/-- An enabled timer with TIMA = TMA = t requests its interrupt at exactly (256 - t) periods, and TIMA is t again.
(R313, R317.) -/
def Obligations.TimerInterruptPeriod : Prop :=
  (∀ (t : Timer) (ifl : BitVec 5), t.tac.getLsbD 2 = true → t.tima = t.tma → t.sub = 0 →
    (∀ c : Nat, c < (256 - t.tma.toNat) * t.period → (timerTick t ifl c).2 = ifl) ∧
    (timerTick t ifl ((256 - t.tma.toNat) * t.period)).2 = ifl ||| 0b00100 ∧
    (timerTick t ifl ((256 - t.tma.toNat) * t.period)).1.tima = t.tma ∧
    (timerTick t ifl ((256 - t.tma.toNat) * t.period)).1.sub = 0) ∧
  (timerPeriod 0b00 = 256 ∧ timerPeriod 0b01 = 4 ∧ timerPeriod 0b10 = 16 ∧ timerPeriod 0b11 = 64) ∧
  (∀ (t : Timer) (ifl : BitVec 5) (a b : Nat),
    timerTick t ifl (a + b) = timerTick (timerTick t ifl a).1 (timerTick t ifl a).2 b)

/-- The PPU's position advances dot by dot through 154 lines of 456 dots, and VBlank is requested exactly as LY
becomes 144. (R342, R343.) -/
def Obligations.PpuScansLines : Prop :=
  (∀ (p : Ppu) (ifl : BitVec 5) (d : Nat), p.on = true → p.ly.toNat < 154 → p.dot < 456 →
    456 * (ppuTick p ifl d).1.ly.toNat + (ppuTick p ifl d).1.dot = (456 * p.ly.toNat + p.dot + d) % 70224 ∧
    (ppuTick p ifl d).1.dot < 456 ∧
    ((ppuTick p ifl d).2.getLsbD 0 = true ↔
      ifl.getLsbD 0 = true ∨ ∃ k : Nat, 1 ≤ k ∧ k ≤ d ∧ (456 * p.ly.toNat + p.dot + k) % 70224 = 456 * 144)) ∧
  (∀ (p : Ppu) (ifl : BitVec 5) (d : Nat), p.on = false → ppuTick p ifl d = (p, ifl)) ∧
  (∀ p : Ppu, p.on = true → p.mode.code =
    if 144 ≤ p.ly.toNat then 1 else if p.dot < 80 then 2 else if p.dot < 252 then 3 else 0)

/-- STAT: its sources request per dot, its LY=LYC bit is the comparison; LCDC bit 7 restarts the scan at line 0, dot
0. (R344, R345, R346.) -/
def Obligations.StatAndLcdSwitch : Prop :=
  (∀ (p : Ppu) (ifl : BitVec 5), let q := (ppuDot p ifl).1
    ((ppuDot p ifl).2.getLsbD 1 = true ↔ ifl.getLsbD 1 = true ∨
      (q.mode ≠ p.mode ∧ ((q.mode = .hblank ∧ p.statSel.getLsbD 0 = true) ∨ (q.mode = .vblank ∧ p.statSel.getLsbD 1 = true) ∨
        (q.mode = .oamSearch ∧ p.statSel.getLsbD 2 = true))) ∨
      (q.ly ≠ p.ly ∧ q.ly = p.lyc ∧ p.statSel.getLsbD 3 = true))) ∧
  (∀ s : State, s.params.bus = .spec → (busRead s 0xFF41).getLsbD 2 = decide (s.ppu.ly = s.ppu.lyc) ∧
    (busRead s 0xFF41).extractLsb' 0 2 = s.ppu.mode.code ∧ (busRead s 0xFF41).extractLsb' 3 4 = s.ppu.statSel) ∧
  (∀ (s : State) (v : Byte), s.params.bus = .spec → v.getLsbD 7 ≠ s.ppu.on →
    busWrite s 0xFF40 v = { s with ppu := { s.ppu with lcdc := v, ly := 0, dot := 0 } } ∧
    (busWrite s 0xFF40 v).ppu.mode = if v.getLsbD 7 then .oamSearch else .hblank) ∧
  (∀ (s : State) (v : Byte), s.params.bus = .spec → v.getLsbD 7 = s.ppu.on →
    (s.ppu.on = false → s.ppu.ly = 0 ∧ s.ppu.dot = 0) →
    busWrite s 0xFF40 v = { s with ppu := { s.ppu with lcdc := v } }) ∧
  (∀ (s : State) (v : Byte), s.params.bus = .spec → busWrite s 0xFF45 v = { s with ppu := { s.ppu with lyc := v } } ∧
    busWrite s 0xFF41 v = { s with ppu := { s.ppu with statSel := v.extractLsb' 3 4 } } ∧ busWrite s 0xFF44 v = s)

/-- Rendering: tile pixels and palettes, the sprites of a line in OAM order, which of them shows at a pixel, and the
shade it gives. (Derived from 60_exceptions.md R347, R350, R351; notes/assumptions log 34.) MODEL'S CHOICE: that
transparent sprites are left out before the choice is log 34 (DEDUCED). -/
def Obligations.TilesAndSprites : Prop :=
  (∀ (lo hi : Byte) (i : Nat), i < 8 →
    (tilePixel lo hi i).toNat = 2 * (hi.getLsbD (7 - i)).toNat + (lo.getLsbD (7 - i)).toNat) ∧
  (∀ (pal : Byte) (idx : BitVec 2), (paletteShade pal idx).toNat = pal.toNat / 4 ^ idx.toNat % 4) ∧
  (∀ (p : Ppu) (y : Nat) (sp : Sprite), coversLine p y sp = true ↔
    sp.y.toNat ≤ y + 16 ∧ y + 16 < sp.y.toNat + (if p.lcdc.getLsbD 2 then 16 else 8)) ∧
  (∀ (x : Nat) (sp : Sprite), coversColumn x sp = true ↔ sp.x.toNat ≤ x + 8 ∧ x < sp.x.toNat) ∧
  (∀ (p : Ppu) (m : Memory) (y : Nat), (p.lcdc.getLsbD 1 = false → lineSprites p m y = []) ∧
    (p.lcdc.getLsbD 1 = true → lineSprites p m y =
      ((List.range 40).filter fun k => coversLine p y (spriteAt m k) &&
        decide ((List.range k).countP (fun j => coversLine p y (spriteAt m j)) < 10)).map (spriteAt m)) ∧
    (lineSprites p m y).length ≤ 10) ∧
  (∀ (p : Ppu) (m : Memory) (x y : Nat) (sp : Sprite), coversLine p y sp = true → coversColumn x sp = true →
    let tile := if p.lcdc.getLsbD 2 then 2 * (sp.tile.toNat / 2) else sp.tile.toNat
    let row := if sp.attr.getLsbD 6 then (if p.lcdc.getLsbD 2 then 15 else 7) - (y + 16 - sp.y.toNat) else y + 16 - sp.y.toNat
    let column := if sp.attr.getLsbD 5 then 7 - (x + 8 - sp.x.toNat) else x + 8 - sp.x.toNat
    spriteIndex p m x y sp =
      tilePixel (m.read (0x8000 + 16 * tile + 2 * row)) (m.read (0x8000 + 16 * tile + 2 * row + 1)) column) ∧
  (∀ (p : Ppu) (m : Memory) (x y : Nat), shownSprite p m x y = none ↔
    ∀ q ∈ lineSprites p m y, coversColumn x q = true → spriteIndex p m x y q = 0) ∧
  (∀ (p : Ppu) (m : Memory) (x y : Nat) (sp : Sprite), shownSprite p m x y = some sp →
    coversColumn x sp = true ∧ spriteIndex p m x y sp ≠ 0 ∧
    ∃ before after : List Sprite, lineSprites p m y = before ++ sp :: after ∧
      (∀ q ∈ before, coversColumn x q = true → spriteIndex p m x y q ≠ 0 → sp.x.toNat < q.x.toNat) ∧
      (∀ q ∈ after, coversColumn x q = true → spriteIndex p m x y q ≠ 0 → sp.x.toNat ≤ q.x.toNat)) ∧
  (∀ (p : Ppu) (m : Memory) (x y : Nat),
    (shownSprite p m x y = none → pixelShade p m x y = paletteShade p.bgp (bgIndex p m x y)) ∧
    (∀ sp : Sprite, shownSprite p m x y = some sp → pixelShade p m x y =
      if sp.attr.getLsbD 7 = true ∧ bgIndex p m x y ≠ 0 then paletteShade p.bgp (bgIndex p m x y)
      else paletteShade (if sp.attr.getLsbD 4 then p.obp1 else p.obp0) (spriteIndex p m x y sp)))

/-- The sweep: beyond 11 bits the channel is disabled and its frequency kept, else the new frequency is stored if the
shift is not 0. (Derived from 60_exceptions.md R354, R356; notes/assumptions log 21.) MODEL'S CHOICE: that the sweep
computes from the frequency register and not from the shadow is log 21 (DEDUCED). -/
def Obligations.SweepRecomputes : Prop :=
  (∀ (nr10 : Byte) (c : Channel), let sh := nr10.toNat % 8; let f := c.freq.toNat
    (nr10.getLsbD 3 = false → 0x7FF < f + f / 2 ^ sh →
      (sweepChannel nr10 c).enabled = false ∧ (sweepChannel nr10 c).freq = c.freq) ∧
    (nr10.getLsbD 3 = false → f + f / 2 ^ sh ≤ 0x7FF →
      (sweepChannel nr10 c).enabled = c.enabled ∧
      (sweepChannel nr10 c).freq.toNat = if sh = 0 then f else f + f / 2 ^ sh) ∧
    (nr10.getLsbD 3 = true →
      (sweepChannel nr10 c).enabled = c.enabled ∧
      (sweepChannel nr10 c).freq.toNat = if sh = 0 then f else f - f / 2 ^ sh)) ∧
  (∀ c : Channel, (stepLength c).enabled = (c.enabled && !(c.nr4.getLsbD 6 && decide (c.length = 1))) ∧
    (stepLength c).length = if c.nr4.getLsbD 6 = true then c.length - 1 else c.length)

/-- The run loop: paused returns at once, a breakpoint stops after the step that reaches it, an idle step never
stops. (R320, R321.) -/
def Obligations.RunLoop : Prop :=
  (∀ s : State, run 0 s = (s, .budgetExhausted)) ∧
  (∀ (n : Nat) (s : State), s.ctl.running = false → run (n + 1) s = (s, .paused)) ∧
  (∀ (n : Nat) (s t : State), s.ctl.running = true → step s = .next t →
    run (n + 1) s =
      if ¬(s.halted = true ∧ pending s = false) ∧ t.pc ∈ t.ctl.breakpoints then
        ({ t with ctl := { t.ctl with running := false } }, .breakpoint)
      else run n t) ∧
  (∀ (n : Nat) (s : State) (info : IllegalInstruction), s.ctl.running = true → s.fault = none →
    step s = .fault (.illegalInstruction info) →
    run (n + 1) s = ({ s with fault := some info, ctl := { s.ctl with running := false } }, .faulted)) ∧
  (∀ (n : Nat) (s : State), s.ctl.running = true → s.fault ≠ none →
    run (n + 1) s = ({ s with ctl := { s.ctl with running := false } }, .faulted)) ∧
  (∀ (n : Nat) (s : State), s.ctl.running = true → step s = .fault .stuck → run (n + 1) s = (s, .stuck)) ∧
  (∀ (s : State) (a : Int), ¬(0 ≤ a ∧ a ≤ 0xFFFF) → addBreakpoint s a = s) ∧
  (∀ (s : State) (a b : Word), b ∈ (addBreakpoint s a.toNat).ctl.breakpoints ↔ b = a ∨ b ∈ s.ctl.breakpoints) ∧
  (∀ (s : State) (a b : Word), b ∈ (removeBreakpoint s a.toNat).ctl.breakpoints ↔ b ≠ a ∧ b ∈ s.ctl.breakpoints) ∧
  (∀ s : State, (startRunning s).ctl.running = true ∧ (stopRunning s).ctl.running = false ∧
    (toggleRunning s).ctl.running = !s.ctl.running ∧ isRunning s = s.ctl.running)

/-- Restoring a buffer just serialized gives back every captured field and keeps the execution control; a bad buffer
changes nothing. (Derived from 60_exceptions.md R326; notes/assumptions log 29.) -/
def Obligations.SaveStateRoundTrip : Prop :=
  (∀ s u : State, deserialize (serialize s) u =
    .ok { s with ctl := u.ctl, params := u.params, requests := u.requests, freeIdx := u.freeIdx }) ∧
  (∀ (b : SaveBuffer) (u : State), b.version ≠ (serialize u).version ∨ b.length ≠ (serialize u).length →
    deserialize b u = .error .wrongVersionOrLength)

/-- A program cannot see the execution control: two machines that differ only in it step alike. (Derived from
60_exceptions.md R304, R325; 10_state.md R37.) -/
def Obligations.ControlStateIsInvisible : Prop :=
  ∀ (s : State) (c : Control), stopWake { s with ctl := c } = stopWake s →
    (∀ t : State, step s = .next t →
      ∃ n : Nat, step { s with ctl := c } = .next { t with ctl := { c with totalCycles := n } }) ∧
    (∀ f : Fault, step s = .fault f → step { s with ctl := c } = .fault f)

/-- Every step keeps the machine invariant, from every state that has it. (Derived from 10_state.md R25, R33, R35;
60_exceptions.md R310, R313, R342, R346; notes/assumptions logs 1, 33.) -/
def Obligations.StepKeepsInvariant : Prop :=
  ∀ s t : State, Inv s → step s = .next t → Inv t

/-- The state right after reset has the machine invariant, in both reset modes. (Derived from 10_state.md R39;
60_exceptions.md R316, R349.) -/
def Obligations.ResetHasInvariant : Prop :=
  Inv State.reset ∧
  ∀ (p : Params) (img : Images), img.ram.wf = true → img.extRam.wf = true → img.rom.wf = true → img.bootRom.wf = true →
    p.apu.postBootWave.wf = true → Inv (State.powerOn p img)

/-- Reset: the registers, the interrupt state and the timer hold the table's values in each mode. (R39, R316.) -/
def Obligations.ResetValues : Prop :=
  ∀ (p : Params) (img : Images), let s := State.powerOn p img
    (p.resetMode = .postBoot →
      s.regs = { a := 0x01, f := 0xB0, b := 0x00, c := 0x13, d := 0x00, e := 0xD8, h := 0x01, l := 0x4D, sp := 0xFFFE,
                 pc := 0x0100 } ∧
      s.intr = { ime := false, ie := 0x00, ifl := 0b00001, eiPending := false } ∧
      s.timer = { divCounter := 0x2AC0, tima := 0, tma := 0, tac := 0, sub := 0 } ∧ (p.bus = .spec → busRead s 0xFF04 = 0xAB)) ∧
    (p.resetMode = .bootRom →
      s.regs = { a := 0, f := 0, b := 0, c := 0, d := 0, e := 0, h := 0, l := 0, sp := 0, pc := 0 } ∧
      s.intr = { ime := false, ie := 0x00, ifl := 0, eiPending := false } ∧
      s.timer = { divCounter := 0, tima := 0, tma := 0, tac := 0, sub := 0 }) ∧
    s.halted = false ∧ s.stopped = false ∧ s.haltBugLatch = false ∧ s.fault = none ∧ (p.bus = .spec → busRead s 0xFF07 = 0xF8)
end

