-- ==== Sys2Proof/Laws/Memory.lean ====
section
/-! SUPPORT. The laws of the byte memories: read after write, and the canonical form kept. -/

namespace Sys2Proof.Machine

/-- A key below every key listed reads as blank. -/
theorem Memory.read_below (m : Memory) (lo a : Nat) (h : Memory.wfFrom lo m = true) (ha : a < lo) :
    m.read a = Memory.blank := by
  induction m generalizing lo with
  | nil => rfl
  | cons c rest ih =>
    obtain ⟨k, v⟩ := c
    simp only [Memory.wfFrom, Bool.and_eq_true, decide_eq_true_eq] at h
    have hk : k ≠ a := by omega
    rw [Memory.read, if_neg hk]
    exact ih (k + 1) h.2 (by omega)

/-- What a cell put in front reads as. -/
theorem Memory.read_consCell (a b : Nat) (v : Byte) (m : Memory) (h : m.read a = Memory.blank) :
    (Memory.consCell a v m).read b = if b = a then v else m.read b := by
  unfold Memory.consCell
  split
  · next hv =>
    split
    · next hb => rw [hb, h, hv]
    · rfl
  · rw [Memory.read]
    by_cases hb : b = a
    · simp [hb]
    · rw [if_neg (fun e => hb e.symm), if_neg hb]

/-- What a read gives after a write, on a memory in canonical form (spec/20_memory.md R59, R67). -/
theorem Memory.read_write_from (m : Memory) (lo a b : Nat) (v : Byte) (h : Memory.wfFrom lo m = true) :
    (m.write a v).read b = if b = a then v else m.read b := by
  induction m generalizing lo with
  | nil => exact Memory.read_consCell a b v [] rfl
  | cons c rest ih =>
    obtain ⟨k, w⟩ := c
    have hw := h
    simp only [Memory.wfFrom, Bool.and_eq_true, decide_eq_true_eq] at h
    unfold Memory.write
    split
    · next hlt =>
      apply Memory.read_consCell
      rw [Memory.read, if_neg (by omega)]
      exact Memory.read_below rest (k + 1) a h.2 (by omega)
    · split
      · next hge heq =>
        subst heq
        rw [Memory.read_consCell a b v rest (Memory.read_below rest (a + 1) a h.2 (by omega))]
        by_cases hb : b = a
        · simp [hb]
        · rw [if_neg hb, if_neg hb, Memory.read, if_neg (fun e => hb e.symm)]
      · next hne =>
        rw [Memory.read, Memory.read, ih (k + 1) h.2]
        by_cases hb : k = b
        · have : b ≠ a := by omega
          rw [if_pos hb, if_neg this, if_pos hb]
        · rw [if_neg hb, if_neg hb]

/-- What a read gives after a write. -/
theorem Memory.read_write (m : Memory) (a b : Nat) (v : Byte) (h : m.wf = true) :
    (m.write a v).read b = if b = a then v else m.read b :=
  Memory.read_write_from m 0 a b v h

/-- Read after write, the same key. -/
theorem Memory.read_write_same (m : Memory) (a : Nat) (v : Byte) (h : m.wf = true) : (m.write a v).read a = v := by
  rw [Memory.read_write m a a v h, if_pos rfl]

/-- What a read of another key gives after a write, in canonical form or not. -/
theorem Memory.read_write_other (m : Memory) (a b : Nat) (v : Byte) (h : b ≠ a) : (m.write a v).read b = m.read b := by
  have hc : ∀ l : Memory, (Memory.consCell a v l).read b = l.read b := by
    intro l
    unfold Memory.consCell
    split
    · rfl
    · rw [Memory.read, if_neg (fun e => h e.symm)]
  induction m with
  | nil => exact hc []
  | cons c rest ih =>
    obtain ⟨k, w⟩ := c
    unfold Memory.write
    split
    · exact hc _
    · split
      · next heq =>
        rw [hc, Memory.read, if_neg (by omega)]
      · rw [Memory.read, Memory.read, ih]

/-- A canonical form from a greater key is one from a lesser key. -/
theorem Memory.wfFrom_le (m : Memory) (lo lo' : Nat) (hl : lo' ≤ lo) (h : Memory.wfFrom lo m = true) :
    Memory.wfFrom lo' m = true := by
  cases m with
  | nil => rfl
  | cons c rest =>
    obtain ⟨k, w⟩ := c
    simp only [Memory.wfFrom, Bool.and_eq_true, decide_eq_true_eq] at h ⊢
    exact ⟨⟨by omega, h.1.2⟩, h.2⟩

/-- A cell put in front keeps the canonical form. -/
theorem Memory.wfFrom_consCell (m : Memory) (lo a : Nat) (v : Byte) (hl : lo ≤ a)
    (h : Memory.wfFrom (a + 1) m = true) : Memory.wfFrom lo (Memory.consCell a v m) = true := by
  unfold Memory.consCell
  split
  · exact Memory.wfFrom_le m (a + 1) lo (by omega) h
  · next hv => simp [Memory.wfFrom, hl, h, hv]

/-- A write keeps the canonical form from a key on. -/
theorem Memory.wfFrom_write (m : Memory) (lo a : Nat) (v : Byte) (hl : lo ≤ a) (h : Memory.wfFrom lo m = true) :
    Memory.wfFrom lo (m.write a v) = true := by
  induction m generalizing lo with
  | nil => exact Memory.wfFrom_consCell [] lo a v hl rfl
  | cons c rest ih =>
    obtain ⟨k, w⟩ := c
    simp only [Memory.wfFrom, Bool.and_eq_true, decide_eq_true_eq] at h
    unfold Memory.write
    split
    · next hlt =>
      apply Memory.wfFrom_consCell _ _ _ _ hl
      simp only [Memory.wfFrom, Bool.and_eq_true, decide_eq_true_eq]
      exact ⟨⟨hlt, h.1.2⟩, h.2⟩
    · split
      · next heq =>
        subst heq
        exact Memory.wfFrom_consCell rest lo a v hl h.2
      · simp only [Memory.wfFrom, Bool.and_eq_true, decide_eq_true_eq]
        exact ⟨h.1, ih (k + 1) (by omega) h.2⟩

/-- A write keeps the canonical form. -/
theorem Memory.wf_write (m : Memory) (a : Nat) (v : Byte) (h : m.wf = true) : (m.write a v).wf = true :=
  Memory.wfFrom_write m 0 a v (Nat.zero_le a) h

/-- A byte image is in canonical form from its first key on. -/
theorem Memory.wfFrom_ofBytes (bytes : List Byte) (a : Nat) : Memory.wfFrom a (Memory.ofBytesFrom a bytes) = true := by
  induction bytes generalizing a with
  | nil => rfl
  | cons v rest ih => exact Memory.wfFrom_consCell _ a a v (Nat.le_refl a) (ih (a + 1))

end Sys2Proof.Machine
end

