-- ==== Sys2Proof/Laws/State.lean ====
section
/-! SUPPORT. One lemma per field per update of the state: what a named update leaves alone and what it sets. -/

namespace Sys2Proof.Machine
@[simp] theorem State.mapRegs_regs (s : State) (g : Regs → Regs) : (s.mapRegs g).regs = g s.regs := rfl
@[simp] theorem State.mapRegs_intr (s : State) (g : Regs → Regs) : (s.mapRegs g).intr = s.intr := rfl
@[simp] theorem State.mapRegs_halted (s : State) (g : Regs → Regs) : (s.mapRegs g).halted = s.halted := rfl
@[simp] theorem State.mapRegs_stopped (s : State) (g : Regs → Regs) : (s.mapRegs g).stopped = s.stopped := rfl
@[simp] theorem State.mapRegs_haltBugLatch (s : State) (g : Regs → Regs) : (s.mapRegs g).haltBugLatch = s.haltBugLatch := rfl
@[simp] theorem State.mapRegs_fault (s : State) (g : Regs → Regs) : (s.mapRegs g).fault = s.fault := rfl
@[simp] theorem State.mapRegs_ctl (s : State) (g : Regs → Regs) : (s.mapRegs g).ctl = s.ctl := rfl
@[simp] theorem State.mapRegs_timer (s : State) (g : Regs → Regs) : (s.mapRegs g).timer = s.timer := rfl
@[simp] theorem State.mapRegs_ppu (s : State) (g : Regs → Regs) : (s.mapRegs g).ppu = s.ppu := rfl
@[simp] theorem State.mapRegs_apu (s : State) (g : Regs → Regs) : (s.mapRegs g).apu = s.apu := rfl
@[simp] theorem State.mapRegs_mbc (s : State) (g : Regs → Regs) : (s.mapRegs g).mbc = s.mbc := rfl
@[simp] theorem State.mapRegs_ram (s : State) (g : Regs → Regs) : (s.mapRegs g).ram = s.ram := rfl
@[simp] theorem State.mapRegs_waveRam (s : State) (g : Regs → Regs) : (s.mapRegs g).waveRam = s.waveRam := rfl
@[simp] theorem State.mapRegs_extRam (s : State) (g : Regs → Regs) : (s.mapRegs g).extRam = s.extRam := rfl
@[simp] theorem State.mapRegs_rom (s : State) (g : Regs → Regs) : (s.mapRegs g).rom = s.rom := rfl
@[simp] theorem State.mapRegs_bootRom (s : State) (g : Regs → Regs) : (s.mapRegs g).bootRom = s.bootRom := rfl
@[simp] theorem State.mapRegs_bootOverlay (s : State) (g : Regs → Regs) : (s.mapRegs g).bootOverlay = s.bootOverlay := rfl
@[simp] theorem State.mapRegs_params (s : State) (g : Regs → Regs) : (s.mapRegs g).params = s.params := rfl
@[simp] theorem State.mapRegs_requests (s : State) (g : Regs → Regs) : (s.mapRegs g).requests = s.requests := rfl
@[simp] theorem State.mapRegs_freeIdx (s : State) (g : Regs → Regs) : (s.mapRegs g).freeIdx = s.freeIdx := rfl
@[simp] theorem State.mapRegs_own (s : State) (g : Regs → Regs) : (s.mapRegs g).own = s.own := rfl
@[simp] theorem State.mapIntr_regs (s : State) (g : Interrupts → Interrupts) : (s.mapIntr g).regs = s.regs := rfl
@[simp] theorem State.mapIntr_intr (s : State) (g : Interrupts → Interrupts) : (s.mapIntr g).intr = g s.intr := rfl
@[simp] theorem State.mapIntr_halted (s : State) (g : Interrupts → Interrupts) : (s.mapIntr g).halted = s.halted := rfl
@[simp] theorem State.mapIntr_stopped (s : State) (g : Interrupts → Interrupts) : (s.mapIntr g).stopped = s.stopped := rfl
@[simp] theorem State.mapIntr_haltBugLatch (s : State) (g : Interrupts → Interrupts) : (s.mapIntr g).haltBugLatch = s.haltBugLatch := rfl
@[simp] theorem State.mapIntr_fault (s : State) (g : Interrupts → Interrupts) : (s.mapIntr g).fault = s.fault := rfl
@[simp] theorem State.mapIntr_ctl (s : State) (g : Interrupts → Interrupts) : (s.mapIntr g).ctl = s.ctl := rfl
@[simp] theorem State.mapIntr_timer (s : State) (g : Interrupts → Interrupts) : (s.mapIntr g).timer = s.timer := rfl
@[simp] theorem State.mapIntr_ppu (s : State) (g : Interrupts → Interrupts) : (s.mapIntr g).ppu = s.ppu := rfl
@[simp] theorem State.mapIntr_apu (s : State) (g : Interrupts → Interrupts) : (s.mapIntr g).apu = s.apu := rfl
@[simp] theorem State.mapIntr_mbc (s : State) (g : Interrupts → Interrupts) : (s.mapIntr g).mbc = s.mbc := rfl
@[simp] theorem State.mapIntr_ram (s : State) (g : Interrupts → Interrupts) : (s.mapIntr g).ram = s.ram := rfl
@[simp] theorem State.mapIntr_waveRam (s : State) (g : Interrupts → Interrupts) : (s.mapIntr g).waveRam = s.waveRam := rfl
@[simp] theorem State.mapIntr_extRam (s : State) (g : Interrupts → Interrupts) : (s.mapIntr g).extRam = s.extRam := rfl
@[simp] theorem State.mapIntr_rom (s : State) (g : Interrupts → Interrupts) : (s.mapIntr g).rom = s.rom := rfl
@[simp] theorem State.mapIntr_bootRom (s : State) (g : Interrupts → Interrupts) : (s.mapIntr g).bootRom = s.bootRom := rfl
@[simp] theorem State.mapIntr_bootOverlay (s : State) (g : Interrupts → Interrupts) : (s.mapIntr g).bootOverlay = s.bootOverlay := rfl
@[simp] theorem State.mapIntr_params (s : State) (g : Interrupts → Interrupts) : (s.mapIntr g).params = s.params := rfl
@[simp] theorem State.mapIntr_requests (s : State) (g : Interrupts → Interrupts) : (s.mapIntr g).requests = s.requests := rfl
@[simp] theorem State.mapIntr_freeIdx (s : State) (g : Interrupts → Interrupts) : (s.mapIntr g).freeIdx = s.freeIdx := rfl
@[simp] theorem State.mapIntr_own (s : State) (g : Interrupts → Interrupts) : (s.mapIntr g).own = s.own := rfl
@[simp] theorem State.mapTimer_regs (s : State) (g : Timer → Timer) : (s.mapTimer g).regs = s.regs := rfl
@[simp] theorem State.mapTimer_intr (s : State) (g : Timer → Timer) : (s.mapTimer g).intr = s.intr := rfl
@[simp] theorem State.mapTimer_halted (s : State) (g : Timer → Timer) : (s.mapTimer g).halted = s.halted := rfl
@[simp] theorem State.mapTimer_stopped (s : State) (g : Timer → Timer) : (s.mapTimer g).stopped = s.stopped := rfl
@[simp] theorem State.mapTimer_haltBugLatch (s : State) (g : Timer → Timer) : (s.mapTimer g).haltBugLatch = s.haltBugLatch := rfl
@[simp] theorem State.mapTimer_fault (s : State) (g : Timer → Timer) : (s.mapTimer g).fault = s.fault := rfl
@[simp] theorem State.mapTimer_ctl (s : State) (g : Timer → Timer) : (s.mapTimer g).ctl = s.ctl := rfl
@[simp] theorem State.mapTimer_timer (s : State) (g : Timer → Timer) : (s.mapTimer g).timer = g s.timer := rfl
@[simp] theorem State.mapTimer_ppu (s : State) (g : Timer → Timer) : (s.mapTimer g).ppu = s.ppu := rfl
@[simp] theorem State.mapTimer_apu (s : State) (g : Timer → Timer) : (s.mapTimer g).apu = s.apu := rfl
@[simp] theorem State.mapTimer_mbc (s : State) (g : Timer → Timer) : (s.mapTimer g).mbc = s.mbc := rfl
@[simp] theorem State.mapTimer_ram (s : State) (g : Timer → Timer) : (s.mapTimer g).ram = s.ram := rfl
@[simp] theorem State.mapTimer_waveRam (s : State) (g : Timer → Timer) : (s.mapTimer g).waveRam = s.waveRam := rfl
@[simp] theorem State.mapTimer_extRam (s : State) (g : Timer → Timer) : (s.mapTimer g).extRam = s.extRam := rfl
@[simp] theorem State.mapTimer_rom (s : State) (g : Timer → Timer) : (s.mapTimer g).rom = s.rom := rfl
@[simp] theorem State.mapTimer_bootRom (s : State) (g : Timer → Timer) : (s.mapTimer g).bootRom = s.bootRom := rfl
@[simp] theorem State.mapTimer_bootOverlay (s : State) (g : Timer → Timer) : (s.mapTimer g).bootOverlay = s.bootOverlay := rfl
@[simp] theorem State.mapTimer_params (s : State) (g : Timer → Timer) : (s.mapTimer g).params = s.params := rfl
@[simp] theorem State.mapTimer_requests (s : State) (g : Timer → Timer) : (s.mapTimer g).requests = s.requests := rfl
@[simp] theorem State.mapTimer_freeIdx (s : State) (g : Timer → Timer) : (s.mapTimer g).freeIdx = s.freeIdx := rfl
@[simp] theorem State.mapTimer_own (s : State) (g : Timer → Timer) : (s.mapTimer g).own = s.own := rfl
@[simp] theorem State.mapPpu_regs (s : State) (g : Ppu → Ppu) : (s.mapPpu g).regs = s.regs := rfl
@[simp] theorem State.mapPpu_intr (s : State) (g : Ppu → Ppu) : (s.mapPpu g).intr = s.intr := rfl
@[simp] theorem State.mapPpu_halted (s : State) (g : Ppu → Ppu) : (s.mapPpu g).halted = s.halted := rfl
@[simp] theorem State.mapPpu_stopped (s : State) (g : Ppu → Ppu) : (s.mapPpu g).stopped = s.stopped := rfl
@[simp] theorem State.mapPpu_haltBugLatch (s : State) (g : Ppu → Ppu) : (s.mapPpu g).haltBugLatch = s.haltBugLatch := rfl
@[simp] theorem State.mapPpu_fault (s : State) (g : Ppu → Ppu) : (s.mapPpu g).fault = s.fault := rfl
@[simp] theorem State.mapPpu_ctl (s : State) (g : Ppu → Ppu) : (s.mapPpu g).ctl = s.ctl := rfl
@[simp] theorem State.mapPpu_timer (s : State) (g : Ppu → Ppu) : (s.mapPpu g).timer = s.timer := rfl
@[simp] theorem State.mapPpu_ppu (s : State) (g : Ppu → Ppu) : (s.mapPpu g).ppu = g s.ppu := rfl
@[simp] theorem State.mapPpu_apu (s : State) (g : Ppu → Ppu) : (s.mapPpu g).apu = s.apu := rfl
@[simp] theorem State.mapPpu_mbc (s : State) (g : Ppu → Ppu) : (s.mapPpu g).mbc = s.mbc := rfl
@[simp] theorem State.mapPpu_ram (s : State) (g : Ppu → Ppu) : (s.mapPpu g).ram = s.ram := rfl
@[simp] theorem State.mapPpu_waveRam (s : State) (g : Ppu → Ppu) : (s.mapPpu g).waveRam = s.waveRam := rfl
@[simp] theorem State.mapPpu_extRam (s : State) (g : Ppu → Ppu) : (s.mapPpu g).extRam = s.extRam := rfl
@[simp] theorem State.mapPpu_rom (s : State) (g : Ppu → Ppu) : (s.mapPpu g).rom = s.rom := rfl
@[simp] theorem State.mapPpu_bootRom (s : State) (g : Ppu → Ppu) : (s.mapPpu g).bootRom = s.bootRom := rfl
@[simp] theorem State.mapPpu_bootOverlay (s : State) (g : Ppu → Ppu) : (s.mapPpu g).bootOverlay = s.bootOverlay := rfl
@[simp] theorem State.mapPpu_params (s : State) (g : Ppu → Ppu) : (s.mapPpu g).params = s.params := rfl
@[simp] theorem State.mapPpu_requests (s : State) (g : Ppu → Ppu) : (s.mapPpu g).requests = s.requests := rfl
@[simp] theorem State.mapPpu_freeIdx (s : State) (g : Ppu → Ppu) : (s.mapPpu g).freeIdx = s.freeIdx := rfl
@[simp] theorem State.mapPpu_own (s : State) (g : Ppu → Ppu) : (s.mapPpu g).own = s.own := rfl
@[simp] theorem State.mapCtl_regs (s : State) (g : Control → Control) : (s.mapCtl g).regs = s.regs := rfl
@[simp] theorem State.mapCtl_intr (s : State) (g : Control → Control) : (s.mapCtl g).intr = s.intr := rfl
@[simp] theorem State.mapCtl_halted (s : State) (g : Control → Control) : (s.mapCtl g).halted = s.halted := rfl
@[simp] theorem State.mapCtl_stopped (s : State) (g : Control → Control) : (s.mapCtl g).stopped = s.stopped := rfl
@[simp] theorem State.mapCtl_haltBugLatch (s : State) (g : Control → Control) : (s.mapCtl g).haltBugLatch = s.haltBugLatch := rfl
@[simp] theorem State.mapCtl_fault (s : State) (g : Control → Control) : (s.mapCtl g).fault = s.fault := rfl
@[simp] theorem State.mapCtl_ctl (s : State) (g : Control → Control) : (s.mapCtl g).ctl = g s.ctl := rfl
@[simp] theorem State.mapCtl_timer (s : State) (g : Control → Control) : (s.mapCtl g).timer = s.timer := rfl
@[simp] theorem State.mapCtl_ppu (s : State) (g : Control → Control) : (s.mapCtl g).ppu = s.ppu := rfl
@[simp] theorem State.mapCtl_apu (s : State) (g : Control → Control) : (s.mapCtl g).apu = s.apu := rfl
@[simp] theorem State.mapCtl_mbc (s : State) (g : Control → Control) : (s.mapCtl g).mbc = s.mbc := rfl
@[simp] theorem State.mapCtl_ram (s : State) (g : Control → Control) : (s.mapCtl g).ram = s.ram := rfl
@[simp] theorem State.mapCtl_waveRam (s : State) (g : Control → Control) : (s.mapCtl g).waveRam = s.waveRam := rfl
@[simp] theorem State.mapCtl_extRam (s : State) (g : Control → Control) : (s.mapCtl g).extRam = s.extRam := rfl
@[simp] theorem State.mapCtl_rom (s : State) (g : Control → Control) : (s.mapCtl g).rom = s.rom := rfl
@[simp] theorem State.mapCtl_bootRom (s : State) (g : Control → Control) : (s.mapCtl g).bootRom = s.bootRom := rfl
@[simp] theorem State.mapCtl_bootOverlay (s : State) (g : Control → Control) : (s.mapCtl g).bootOverlay = s.bootOverlay := rfl
@[simp] theorem State.mapCtl_params (s : State) (g : Control → Control) : (s.mapCtl g).params = s.params := rfl
@[simp] theorem State.mapCtl_requests (s : State) (g : Control → Control) : (s.mapCtl g).requests = s.requests := rfl
@[simp] theorem State.mapCtl_freeIdx (s : State) (g : Control → Control) : (s.mapCtl g).freeIdx = s.freeIdx := rfl
@[simp] theorem State.mapCtl_own (s : State) (g : Control → Control) : (s.mapCtl g).own = s.own := rfl
@[simp] theorem State.storeRam_regs (s : State) (a : Nat) (v : Byte) : (s.storeRam a v).regs = s.regs := rfl
@[simp] theorem State.storeRam_intr (s : State) (a : Nat) (v : Byte) : (s.storeRam a v).intr = s.intr := rfl
@[simp] theorem State.storeRam_halted (s : State) (a : Nat) (v : Byte) : (s.storeRam a v).halted = s.halted := rfl
@[simp] theorem State.storeRam_stopped (s : State) (a : Nat) (v : Byte) : (s.storeRam a v).stopped = s.stopped := rfl
@[simp] theorem State.storeRam_haltBugLatch (s : State) (a : Nat) (v : Byte) : (s.storeRam a v).haltBugLatch = s.haltBugLatch := rfl
@[simp] theorem State.storeRam_fault (s : State) (a : Nat) (v : Byte) : (s.storeRam a v).fault = s.fault := rfl
@[simp] theorem State.storeRam_ctl (s : State) (a : Nat) (v : Byte) : (s.storeRam a v).ctl = s.ctl := rfl
@[simp] theorem State.storeRam_timer (s : State) (a : Nat) (v : Byte) : (s.storeRam a v).timer = s.timer := rfl
@[simp] theorem State.storeRam_ppu (s : State) (a : Nat) (v : Byte) : (s.storeRam a v).ppu = s.ppu := rfl
@[simp] theorem State.storeRam_apu (s : State) (a : Nat) (v : Byte) : (s.storeRam a v).apu = s.apu := rfl
@[simp] theorem State.storeRam_mbc (s : State) (a : Nat) (v : Byte) : (s.storeRam a v).mbc = s.mbc := rfl
@[simp] theorem State.storeRam_ram (s : State) (a : Nat) (v : Byte) : (s.storeRam a v).ram = s.ram.write a v := rfl
@[simp] theorem State.storeRam_waveRam (s : State) (a : Nat) (v : Byte) : (s.storeRam a v).waveRam = s.waveRam := rfl
@[simp] theorem State.storeRam_extRam (s : State) (a : Nat) (v : Byte) : (s.storeRam a v).extRam = s.extRam := rfl
@[simp] theorem State.storeRam_rom (s : State) (a : Nat) (v : Byte) : (s.storeRam a v).rom = s.rom := rfl
@[simp] theorem State.storeRam_bootRom (s : State) (a : Nat) (v : Byte) : (s.storeRam a v).bootRom = s.bootRom := rfl
@[simp] theorem State.storeRam_bootOverlay (s : State) (a : Nat) (v : Byte) : (s.storeRam a v).bootOverlay = s.bootOverlay := rfl
@[simp] theorem State.storeRam_params (s : State) (a : Nat) (v : Byte) : (s.storeRam a v).params = s.params := rfl
@[simp] theorem State.storeRam_requests (s : State) (a : Nat) (v : Byte) : (s.storeRam a v).requests = s.requests := rfl
@[simp] theorem State.storeRam_freeIdx (s : State) (a : Nat) (v : Byte) : (s.storeRam a v).freeIdx = s.freeIdx := rfl
@[simp] theorem State.storeRam_own (s : State) (a : Nat) (v : Byte) : (s.storeRam a v).own = s.own := rfl
@[simp] theorem State.storeWave_regs (s : State) (a : Nat) (v : Byte) : (s.storeWave a v).regs = s.regs := rfl
@[simp] theorem State.storeWave_intr (s : State) (a : Nat) (v : Byte) : (s.storeWave a v).intr = s.intr := rfl
@[simp] theorem State.storeWave_halted (s : State) (a : Nat) (v : Byte) : (s.storeWave a v).halted = s.halted := rfl
@[simp] theorem State.storeWave_stopped (s : State) (a : Nat) (v : Byte) : (s.storeWave a v).stopped = s.stopped := rfl
@[simp] theorem State.storeWave_haltBugLatch (s : State) (a : Nat) (v : Byte) : (s.storeWave a v).haltBugLatch = s.haltBugLatch := rfl
@[simp] theorem State.storeWave_fault (s : State) (a : Nat) (v : Byte) : (s.storeWave a v).fault = s.fault := rfl
@[simp] theorem State.storeWave_ctl (s : State) (a : Nat) (v : Byte) : (s.storeWave a v).ctl = s.ctl := rfl
@[simp] theorem State.storeWave_timer (s : State) (a : Nat) (v : Byte) : (s.storeWave a v).timer = s.timer := rfl
@[simp] theorem State.storeWave_ppu (s : State) (a : Nat) (v : Byte) : (s.storeWave a v).ppu = s.ppu := rfl
@[simp] theorem State.storeWave_apu (s : State) (a : Nat) (v : Byte) : (s.storeWave a v).apu = s.apu := rfl
@[simp] theorem State.storeWave_mbc (s : State) (a : Nat) (v : Byte) : (s.storeWave a v).mbc = s.mbc := rfl
@[simp] theorem State.storeWave_ram (s : State) (a : Nat) (v : Byte) : (s.storeWave a v).ram = s.ram := rfl
@[simp] theorem State.storeWave_waveRam (s : State) (a : Nat) (v : Byte) : (s.storeWave a v).waveRam = s.waveRam.write a v := rfl
@[simp] theorem State.storeWave_extRam (s : State) (a : Nat) (v : Byte) : (s.storeWave a v).extRam = s.extRam := rfl
@[simp] theorem State.storeWave_rom (s : State) (a : Nat) (v : Byte) : (s.storeWave a v).rom = s.rom := rfl
@[simp] theorem State.storeWave_bootRom (s : State) (a : Nat) (v : Byte) : (s.storeWave a v).bootRom = s.bootRom := rfl
@[simp] theorem State.storeWave_bootOverlay (s : State) (a : Nat) (v : Byte) : (s.storeWave a v).bootOverlay = s.bootOverlay := rfl
@[simp] theorem State.storeWave_params (s : State) (a : Nat) (v : Byte) : (s.storeWave a v).params = s.params := rfl
@[simp] theorem State.storeWave_requests (s : State) (a : Nat) (v : Byte) : (s.storeWave a v).requests = s.requests := rfl
@[simp] theorem State.storeWave_freeIdx (s : State) (a : Nat) (v : Byte) : (s.storeWave a v).freeIdx = s.freeIdx := rfl
@[simp] theorem State.storeWave_own (s : State) (a : Nat) (v : Byte) : (s.storeWave a v).own = s.own := rfl
@[simp] theorem State.storePlatform_regs (s : State) (a : Nat) (v : Byte) : (s.storePlatform a v).regs = s.regs := rfl
@[simp] theorem State.storePlatform_intr (s : State) (a : Nat) (v : Byte) : (s.storePlatform a v).intr = s.intr := rfl
@[simp] theorem State.storePlatform_halted (s : State) (a : Nat) (v : Byte) : (s.storePlatform a v).halted = s.halted := rfl
@[simp] theorem State.storePlatform_stopped (s : State) (a : Nat) (v : Byte) : (s.storePlatform a v).stopped = s.stopped := rfl
@[simp] theorem State.storePlatform_haltBugLatch (s : State) (a : Nat) (v : Byte) : (s.storePlatform a v).haltBugLatch = s.haltBugLatch := rfl
@[simp] theorem State.storePlatform_fault (s : State) (a : Nat) (v : Byte) : (s.storePlatform a v).fault = s.fault := rfl
@[simp] theorem State.storePlatform_ctl (s : State) (a : Nat) (v : Byte) : (s.storePlatform a v).ctl = s.ctl := rfl
@[simp] theorem State.storePlatform_timer (s : State) (a : Nat) (v : Byte) : (s.storePlatform a v).timer = s.timer := rfl
@[simp] theorem State.storePlatform_ppu (s : State) (a : Nat) (v : Byte) : (s.storePlatform a v).ppu = s.ppu := rfl
@[simp] theorem State.storePlatform_apu (s : State) (a : Nat) (v : Byte) : (s.storePlatform a v).apu = s.apu := rfl
@[simp] theorem State.storePlatform_mbc (s : State) (a : Nat) (v : Byte) : (s.storePlatform a v).mbc = s.mbc := rfl
@[simp] theorem State.storePlatform_ram (s : State) (a : Nat) (v : Byte) : (s.storePlatform a v).ram = s.ram := rfl
@[simp] theorem State.storePlatform_waveRam (s : State) (a : Nat) (v : Byte) : (s.storePlatform a v).waveRam = s.waveRam := rfl
@[simp] theorem State.storePlatform_extRam (s : State) (a : Nat) (v : Byte) : (s.storePlatform a v).extRam = s.extRam := rfl
@[simp] theorem State.storePlatform_rom (s : State) (a : Nat) (v : Byte) : (s.storePlatform a v).rom = s.rom := rfl
@[simp] theorem State.storePlatform_bootRom (s : State) (a : Nat) (v : Byte) : (s.storePlatform a v).bootRom = s.bootRom := rfl
@[simp] theorem State.storePlatform_bootOverlay (s : State) (a : Nat) (v : Byte) : (s.storePlatform a v).bootOverlay = s.bootOverlay := rfl
@[simp] theorem State.storePlatform_params (s : State) (a : Nat) (v : Byte) : (s.storePlatform a v).params = s.params := rfl
@[simp] theorem State.storePlatform_requests (s : State) (a : Nat) (v : Byte) : (s.storePlatform a v).requests = s.requests := rfl
@[simp] theorem State.storePlatform_freeIdx (s : State) (a : Nat) (v : Byte) : (s.storePlatform a v).freeIdx = s.freeIdx + 1 := rfl
@[simp] theorem State.storePlatform_own (s : State) (a : Nat) (v : Byte) : (s.storePlatform a v).own = Config.platformWrite s.own s.freeIdx a v := rfl
@[simp] theorem State.pokePlatform_regs (s : State) (a : Nat) (v : Byte) : (s.pokePlatform a v).regs = s.regs := rfl
@[simp] theorem State.pokePlatform_intr (s : State) (a : Nat) (v : Byte) : (s.pokePlatform a v).intr = s.intr := rfl
@[simp] theorem State.pokePlatform_halted (s : State) (a : Nat) (v : Byte) : (s.pokePlatform a v).halted = s.halted := rfl
@[simp] theorem State.pokePlatform_stopped (s : State) (a : Nat) (v : Byte) : (s.pokePlatform a v).stopped = s.stopped := rfl
@[simp] theorem State.pokePlatform_haltBugLatch (s : State) (a : Nat) (v : Byte) : (s.pokePlatform a v).haltBugLatch = s.haltBugLatch := rfl
@[simp] theorem State.pokePlatform_fault (s : State) (a : Nat) (v : Byte) : (s.pokePlatform a v).fault = s.fault := rfl
@[simp] theorem State.pokePlatform_ctl (s : State) (a : Nat) (v : Byte) : (s.pokePlatform a v).ctl = s.ctl := rfl
@[simp] theorem State.pokePlatform_timer (s : State) (a : Nat) (v : Byte) : (s.pokePlatform a v).timer = s.timer := rfl
@[simp] theorem State.pokePlatform_ppu (s : State) (a : Nat) (v : Byte) : (s.pokePlatform a v).ppu = s.ppu := rfl
@[simp] theorem State.pokePlatform_apu (s : State) (a : Nat) (v : Byte) : (s.pokePlatform a v).apu = s.apu := rfl
@[simp] theorem State.pokePlatform_mbc (s : State) (a : Nat) (v : Byte) : (s.pokePlatform a v).mbc = s.mbc := rfl
@[simp] theorem State.pokePlatform_ram (s : State) (a : Nat) (v : Byte) : (s.pokePlatform a v).ram = s.ram := rfl
@[simp] theorem State.pokePlatform_waveRam (s : State) (a : Nat) (v : Byte) : (s.pokePlatform a v).waveRam = s.waveRam := rfl
@[simp] theorem State.pokePlatform_extRam (s : State) (a : Nat) (v : Byte) : (s.pokePlatform a v).extRam = s.extRam := rfl
@[simp] theorem State.pokePlatform_rom (s : State) (a : Nat) (v : Byte) : (s.pokePlatform a v).rom = s.rom := rfl
@[simp] theorem State.pokePlatform_bootRom (s : State) (a : Nat) (v : Byte) : (s.pokePlatform a v).bootRom = s.bootRom := rfl
@[simp] theorem State.pokePlatform_bootOverlay (s : State) (a : Nat) (v : Byte) : (s.pokePlatform a v).bootOverlay = s.bootOverlay := rfl
@[simp] theorem State.pokePlatform_params (s : State) (a : Nat) (v : Byte) : (s.pokePlatform a v).params = s.params := rfl
@[simp] theorem State.pokePlatform_requests (s : State) (a : Nat) (v : Byte) : (s.pokePlatform a v).requests = s.requests := rfl
@[simp] theorem State.pokePlatform_freeIdx (s : State) (a : Nat) (v : Byte) : (s.pokePlatform a v).freeIdx = s.freeIdx + 1 := rfl
@[simp] theorem State.pokePlatform_own (s : State) (a : Nat) (v : Byte) : (s.pokePlatform a v).own = Config.platformPoke s.own s.freeIdx a v := rfl
@[simp] theorem State.setPlatform_regs (s : State) (p : Platform) : (s.setPlatform p).regs = s.regs := rfl
@[simp] theorem State.setPlatform_intr (s : State) (p : Platform) : (s.setPlatform p).intr = s.intr := rfl
@[simp] theorem State.setPlatform_halted (s : State) (p : Platform) : (s.setPlatform p).halted = s.halted := rfl
@[simp] theorem State.setPlatform_stopped (s : State) (p : Platform) : (s.setPlatform p).stopped = s.stopped := rfl
@[simp] theorem State.setPlatform_haltBugLatch (s : State) (p : Platform) : (s.setPlatform p).haltBugLatch = s.haltBugLatch := rfl
@[simp] theorem State.setPlatform_fault (s : State) (p : Platform) : (s.setPlatform p).fault = s.fault := rfl
@[simp] theorem State.setPlatform_ctl (s : State) (p : Platform) : (s.setPlatform p).ctl = s.ctl := rfl
@[simp] theorem State.setPlatform_timer (s : State) (p : Platform) : (s.setPlatform p).timer = p.timer := rfl
@[simp] theorem State.setPlatform_ppu (s : State) (p : Platform) : (s.setPlatform p).ppu = p.ppu := rfl
@[simp] theorem State.setPlatform_apu (s : State) (p : Platform) : (s.setPlatform p).apu = p.apu := rfl
@[simp] theorem State.setPlatform_mbc (s : State) (p : Platform) : (s.setPlatform p).mbc = s.mbc := rfl
@[simp] theorem State.setPlatform_ram (s : State) (p : Platform) : (s.setPlatform p).ram = s.ram := rfl
@[simp] theorem State.setPlatform_waveRam (s : State) (p : Platform) : (s.setPlatform p).waveRam = s.waveRam := rfl
@[simp] theorem State.setPlatform_extRam (s : State) (p : Platform) : (s.setPlatform p).extRam = s.extRam := rfl
@[simp] theorem State.setPlatform_rom (s : State) (p : Platform) : (s.setPlatform p).rom = s.rom := rfl
@[simp] theorem State.setPlatform_bootRom (s : State) (p : Platform) : (s.setPlatform p).bootRom = s.bootRom := rfl
@[simp] theorem State.setPlatform_bootOverlay (s : State) (p : Platform) : (s.setPlatform p).bootOverlay = s.bootOverlay := rfl
@[simp] theorem State.setPlatform_params (s : State) (p : Platform) : (s.setPlatform p).params = s.params := rfl
@[simp] theorem State.setPlatform_requests (s : State) (p : Platform) : (s.setPlatform p).requests = s.requests := rfl
@[simp] theorem State.setPlatform_freeIdx (s : State) (p : Platform) : (s.setPlatform p).freeIdx = s.freeIdx := rfl
@[simp] theorem State.setPlatform_own (s : State) (p : Platform) : (s.setPlatform p).own = p.own := rfl
@[simp] theorem State.setPc_intr (s : State) (v : Word) : (s.setPc v).intr = s.intr := rfl
@[simp] theorem State.setPc_halted (s : State) (v : Word) : (s.setPc v).halted = s.halted := rfl
@[simp] theorem State.setPc_stopped (s : State) (v : Word) : (s.setPc v).stopped = s.stopped := rfl
@[simp] theorem State.setPc_haltBugLatch (s : State) (v : Word) : (s.setPc v).haltBugLatch = s.haltBugLatch := rfl
@[simp] theorem State.setPc_fault (s : State) (v : Word) : (s.setPc v).fault = s.fault := rfl
@[simp] theorem State.setPc_ctl (s : State) (v : Word) : (s.setPc v).ctl = s.ctl := rfl
@[simp] theorem State.setPc_timer (s : State) (v : Word) : (s.setPc v).timer = s.timer := rfl
@[simp] theorem State.setPc_ppu (s : State) (v : Word) : (s.setPc v).ppu = s.ppu := rfl
@[simp] theorem State.setPc_apu (s : State) (v : Word) : (s.setPc v).apu = s.apu := rfl
@[simp] theorem State.setPc_mbc (s : State) (v : Word) : (s.setPc v).mbc = s.mbc := rfl
@[simp] theorem State.setPc_ram (s : State) (v : Word) : (s.setPc v).ram = s.ram := rfl
@[simp] theorem State.setPc_waveRam (s : State) (v : Word) : (s.setPc v).waveRam = s.waveRam := rfl
@[simp] theorem State.setPc_extRam (s : State) (v : Word) : (s.setPc v).extRam = s.extRam := rfl
@[simp] theorem State.setPc_rom (s : State) (v : Word) : (s.setPc v).rom = s.rom := rfl
@[simp] theorem State.setPc_bootRom (s : State) (v : Word) : (s.setPc v).bootRom = s.bootRom := rfl
@[simp] theorem State.setPc_bootOverlay (s : State) (v : Word) : (s.setPc v).bootOverlay = s.bootOverlay := rfl
@[simp] theorem State.setPc_params (s : State) (v : Word) : (s.setPc v).params = s.params := rfl
@[simp] theorem State.setPc_requests (s : State) (v : Word) : (s.setPc v).requests = s.requests := rfl
@[simp] theorem State.setPc_freeIdx (s : State) (v : Word) : (s.setPc v).freeIdx = s.freeIdx := rfl
@[simp] theorem State.setPc_own (s : State) (v : Word) : (s.setPc v).own = s.own := rfl
@[simp] theorem State.setPc_regs_a (s : State) (v : Word) : (s.setPc v).regs.a = s.regs.a := rfl
@[simp] theorem State.setPc_regs_f (s : State) (v : Word) : (s.setPc v).regs.f = s.regs.f := rfl
@[simp] theorem State.setPc_regs_b (s : State) (v : Word) : (s.setPc v).regs.b = s.regs.b := rfl
@[simp] theorem State.setPc_regs_c (s : State) (v : Word) : (s.setPc v).regs.c = s.regs.c := rfl
@[simp] theorem State.setPc_regs_d (s : State) (v : Word) : (s.setPc v).regs.d = s.regs.d := rfl
@[simp] theorem State.setPc_regs_e (s : State) (v : Word) : (s.setPc v).regs.e = s.regs.e := rfl
@[simp] theorem State.setPc_regs_h (s : State) (v : Word) : (s.setPc v).regs.h = s.regs.h := rfl
@[simp] theorem State.setPc_regs_l (s : State) (v : Word) : (s.setPc v).regs.l = s.regs.l := rfl
@[simp] theorem State.setPc_regs_sp (s : State) (v : Word) : (s.setPc v).regs.sp = s.regs.sp := rfl
@[simp] theorem State.setPc_regs_pc (s : State) (v : Word) : (s.setPc v).regs.pc = v := rfl
@[simp] theorem State.setSp_intr (s : State) (v : Word) : (s.setSp v).intr = s.intr := rfl
@[simp] theorem State.setSp_halted (s : State) (v : Word) : (s.setSp v).halted = s.halted := rfl
@[simp] theorem State.setSp_stopped (s : State) (v : Word) : (s.setSp v).stopped = s.stopped := rfl
@[simp] theorem State.setSp_haltBugLatch (s : State) (v : Word) : (s.setSp v).haltBugLatch = s.haltBugLatch := rfl
@[simp] theorem State.setSp_fault (s : State) (v : Word) : (s.setSp v).fault = s.fault := rfl
@[simp] theorem State.setSp_ctl (s : State) (v : Word) : (s.setSp v).ctl = s.ctl := rfl
@[simp] theorem State.setSp_timer (s : State) (v : Word) : (s.setSp v).timer = s.timer := rfl
@[simp] theorem State.setSp_ppu (s : State) (v : Word) : (s.setSp v).ppu = s.ppu := rfl
@[simp] theorem State.setSp_apu (s : State) (v : Word) : (s.setSp v).apu = s.apu := rfl
@[simp] theorem State.setSp_mbc (s : State) (v : Word) : (s.setSp v).mbc = s.mbc := rfl
@[simp] theorem State.setSp_ram (s : State) (v : Word) : (s.setSp v).ram = s.ram := rfl
@[simp] theorem State.setSp_waveRam (s : State) (v : Word) : (s.setSp v).waveRam = s.waveRam := rfl
@[simp] theorem State.setSp_extRam (s : State) (v : Word) : (s.setSp v).extRam = s.extRam := rfl
@[simp] theorem State.setSp_rom (s : State) (v : Word) : (s.setSp v).rom = s.rom := rfl
@[simp] theorem State.setSp_bootRom (s : State) (v : Word) : (s.setSp v).bootRom = s.bootRom := rfl
@[simp] theorem State.setSp_bootOverlay (s : State) (v : Word) : (s.setSp v).bootOverlay = s.bootOverlay := rfl
@[simp] theorem State.setSp_params (s : State) (v : Word) : (s.setSp v).params = s.params := rfl
@[simp] theorem State.setSp_requests (s : State) (v : Word) : (s.setSp v).requests = s.requests := rfl
@[simp] theorem State.setSp_freeIdx (s : State) (v : Word) : (s.setSp v).freeIdx = s.freeIdx := rfl
@[simp] theorem State.setSp_own (s : State) (v : Word) : (s.setSp v).own = s.own := rfl
@[simp] theorem State.setSp_regs_a (s : State) (v : Word) : (s.setSp v).regs.a = s.regs.a := rfl
@[simp] theorem State.setSp_regs_f (s : State) (v : Word) : (s.setSp v).regs.f = s.regs.f := rfl
@[simp] theorem State.setSp_regs_b (s : State) (v : Word) : (s.setSp v).regs.b = s.regs.b := rfl
@[simp] theorem State.setSp_regs_c (s : State) (v : Word) : (s.setSp v).regs.c = s.regs.c := rfl
@[simp] theorem State.setSp_regs_d (s : State) (v : Word) : (s.setSp v).regs.d = s.regs.d := rfl
@[simp] theorem State.setSp_regs_e (s : State) (v : Word) : (s.setSp v).regs.e = s.regs.e := rfl
@[simp] theorem State.setSp_regs_h (s : State) (v : Word) : (s.setSp v).regs.h = s.regs.h := rfl
@[simp] theorem State.setSp_regs_l (s : State) (v : Word) : (s.setSp v).regs.l = s.regs.l := rfl
@[simp] theorem State.setSp_regs_sp (s : State) (v : Word) : (s.setSp v).regs.sp = v := rfl
@[simp] theorem State.setSp_regs_pc (s : State) (v : Word) : (s.setSp v).regs.pc = s.regs.pc := rfl
@[simp] theorem State.setAcc_intr (s : State) (v : Byte) : (s.setAcc v).intr = s.intr := rfl
@[simp] theorem State.setAcc_halted (s : State) (v : Byte) : (s.setAcc v).halted = s.halted := rfl
@[simp] theorem State.setAcc_stopped (s : State) (v : Byte) : (s.setAcc v).stopped = s.stopped := rfl
@[simp] theorem State.setAcc_haltBugLatch (s : State) (v : Byte) : (s.setAcc v).haltBugLatch = s.haltBugLatch := rfl
@[simp] theorem State.setAcc_fault (s : State) (v : Byte) : (s.setAcc v).fault = s.fault := rfl
@[simp] theorem State.setAcc_ctl (s : State) (v : Byte) : (s.setAcc v).ctl = s.ctl := rfl
@[simp] theorem State.setAcc_timer (s : State) (v : Byte) : (s.setAcc v).timer = s.timer := rfl
@[simp] theorem State.setAcc_ppu (s : State) (v : Byte) : (s.setAcc v).ppu = s.ppu := rfl
@[simp] theorem State.setAcc_apu (s : State) (v : Byte) : (s.setAcc v).apu = s.apu := rfl
@[simp] theorem State.setAcc_mbc (s : State) (v : Byte) : (s.setAcc v).mbc = s.mbc := rfl
@[simp] theorem State.setAcc_ram (s : State) (v : Byte) : (s.setAcc v).ram = s.ram := rfl
@[simp] theorem State.setAcc_waveRam (s : State) (v : Byte) : (s.setAcc v).waveRam = s.waveRam := rfl
@[simp] theorem State.setAcc_extRam (s : State) (v : Byte) : (s.setAcc v).extRam = s.extRam := rfl
@[simp] theorem State.setAcc_rom (s : State) (v : Byte) : (s.setAcc v).rom = s.rom := rfl
@[simp] theorem State.setAcc_bootRom (s : State) (v : Byte) : (s.setAcc v).bootRom = s.bootRom := rfl
@[simp] theorem State.setAcc_bootOverlay (s : State) (v : Byte) : (s.setAcc v).bootOverlay = s.bootOverlay := rfl
@[simp] theorem State.setAcc_params (s : State) (v : Byte) : (s.setAcc v).params = s.params := rfl
@[simp] theorem State.setAcc_requests (s : State) (v : Byte) : (s.setAcc v).requests = s.requests := rfl
@[simp] theorem State.setAcc_freeIdx (s : State) (v : Byte) : (s.setAcc v).freeIdx = s.freeIdx := rfl
@[simp] theorem State.setAcc_own (s : State) (v : Byte) : (s.setAcc v).own = s.own := rfl
@[simp] theorem State.setAcc_regs_a (s : State) (v : Byte) : (s.setAcc v).regs.a = v := rfl
@[simp] theorem State.setAcc_regs_f (s : State) (v : Byte) : (s.setAcc v).regs.f = s.regs.f := rfl
@[simp] theorem State.setAcc_regs_b (s : State) (v : Byte) : (s.setAcc v).regs.b = s.regs.b := rfl
@[simp] theorem State.setAcc_regs_c (s : State) (v : Byte) : (s.setAcc v).regs.c = s.regs.c := rfl
@[simp] theorem State.setAcc_regs_d (s : State) (v : Byte) : (s.setAcc v).regs.d = s.regs.d := rfl
@[simp] theorem State.setAcc_regs_e (s : State) (v : Byte) : (s.setAcc v).regs.e = s.regs.e := rfl
@[simp] theorem State.setAcc_regs_h (s : State) (v : Byte) : (s.setAcc v).regs.h = s.regs.h := rfl
@[simp] theorem State.setAcc_regs_l (s : State) (v : Byte) : (s.setAcc v).regs.l = s.regs.l := rfl
@[simp] theorem State.setAcc_regs_sp (s : State) (v : Byte) : (s.setAcc v).regs.sp = s.regs.sp := rfl
@[simp] theorem State.setAcc_regs_pc (s : State) (v : Byte) : (s.setAcc v).regs.pc = s.regs.pc := rfl
@[simp] theorem State.setF_intr (s : State) (v : Byte) : (s.setF v).intr = s.intr := rfl
@[simp] theorem State.setF_halted (s : State) (v : Byte) : (s.setF v).halted = s.halted := rfl
@[simp] theorem State.setF_stopped (s : State) (v : Byte) : (s.setF v).stopped = s.stopped := rfl
@[simp] theorem State.setF_haltBugLatch (s : State) (v : Byte) : (s.setF v).haltBugLatch = s.haltBugLatch := rfl
@[simp] theorem State.setF_fault (s : State) (v : Byte) : (s.setF v).fault = s.fault := rfl
@[simp] theorem State.setF_ctl (s : State) (v : Byte) : (s.setF v).ctl = s.ctl := rfl
@[simp] theorem State.setF_timer (s : State) (v : Byte) : (s.setF v).timer = s.timer := rfl
@[simp] theorem State.setF_ppu (s : State) (v : Byte) : (s.setF v).ppu = s.ppu := rfl
@[simp] theorem State.setF_apu (s : State) (v : Byte) : (s.setF v).apu = s.apu := rfl
@[simp] theorem State.setF_mbc (s : State) (v : Byte) : (s.setF v).mbc = s.mbc := rfl
@[simp] theorem State.setF_ram (s : State) (v : Byte) : (s.setF v).ram = s.ram := rfl
@[simp] theorem State.setF_waveRam (s : State) (v : Byte) : (s.setF v).waveRam = s.waveRam := rfl
@[simp] theorem State.setF_extRam (s : State) (v : Byte) : (s.setF v).extRam = s.extRam := rfl
@[simp] theorem State.setF_rom (s : State) (v : Byte) : (s.setF v).rom = s.rom := rfl
@[simp] theorem State.setF_bootRom (s : State) (v : Byte) : (s.setF v).bootRom = s.bootRom := rfl
@[simp] theorem State.setF_bootOverlay (s : State) (v : Byte) : (s.setF v).bootOverlay = s.bootOverlay := rfl
@[simp] theorem State.setF_params (s : State) (v : Byte) : (s.setF v).params = s.params := rfl
@[simp] theorem State.setF_requests (s : State) (v : Byte) : (s.setF v).requests = s.requests := rfl
@[simp] theorem State.setF_freeIdx (s : State) (v : Byte) : (s.setF v).freeIdx = s.freeIdx := rfl
@[simp] theorem State.setF_own (s : State) (v : Byte) : (s.setF v).own = s.own := rfl
@[simp] theorem State.setF_regs_a (s : State) (v : Byte) : (s.setF v).regs.a = s.regs.a := rfl
@[simp] theorem State.setF_regs_f (s : State) (v : Byte) : (s.setF v).regs.f = maskF v := rfl
@[simp] theorem State.setF_regs_b (s : State) (v : Byte) : (s.setF v).regs.b = s.regs.b := rfl
@[simp] theorem State.setF_regs_c (s : State) (v : Byte) : (s.setF v).regs.c = s.regs.c := rfl
@[simp] theorem State.setF_regs_d (s : State) (v : Byte) : (s.setF v).regs.d = s.regs.d := rfl
@[simp] theorem State.setF_regs_e (s : State) (v : Byte) : (s.setF v).regs.e = s.regs.e := rfl
@[simp] theorem State.setF_regs_h (s : State) (v : Byte) : (s.setF v).regs.h = s.regs.h := rfl
@[simp] theorem State.setF_regs_l (s : State) (v : Byte) : (s.setF v).regs.l = s.regs.l := rfl
@[simp] theorem State.setF_regs_sp (s : State) (v : Byte) : (s.setF v).regs.sp = s.regs.sp := rfl
@[simp] theorem State.setF_regs_pc (s : State) (v : Byte) : (s.setF v).regs.pc = s.regs.pc := rfl
@[simp] theorem State.setBc_intr (s : State) (v : Word) : (s.setBc v).intr = s.intr := rfl
@[simp] theorem State.setBc_halted (s : State) (v : Word) : (s.setBc v).halted = s.halted := rfl
@[simp] theorem State.setBc_stopped (s : State) (v : Word) : (s.setBc v).stopped = s.stopped := rfl
@[simp] theorem State.setBc_haltBugLatch (s : State) (v : Word) : (s.setBc v).haltBugLatch = s.haltBugLatch := rfl
@[simp] theorem State.setBc_fault (s : State) (v : Word) : (s.setBc v).fault = s.fault := rfl
@[simp] theorem State.setBc_ctl (s : State) (v : Word) : (s.setBc v).ctl = s.ctl := rfl
@[simp] theorem State.setBc_timer (s : State) (v : Word) : (s.setBc v).timer = s.timer := rfl
@[simp] theorem State.setBc_ppu (s : State) (v : Word) : (s.setBc v).ppu = s.ppu := rfl
@[simp] theorem State.setBc_apu (s : State) (v : Word) : (s.setBc v).apu = s.apu := rfl
@[simp] theorem State.setBc_mbc (s : State) (v : Word) : (s.setBc v).mbc = s.mbc := rfl
@[simp] theorem State.setBc_ram (s : State) (v : Word) : (s.setBc v).ram = s.ram := rfl
@[simp] theorem State.setBc_waveRam (s : State) (v : Word) : (s.setBc v).waveRam = s.waveRam := rfl
@[simp] theorem State.setBc_extRam (s : State) (v : Word) : (s.setBc v).extRam = s.extRam := rfl
@[simp] theorem State.setBc_rom (s : State) (v : Word) : (s.setBc v).rom = s.rom := rfl
@[simp] theorem State.setBc_bootRom (s : State) (v : Word) : (s.setBc v).bootRom = s.bootRom := rfl
@[simp] theorem State.setBc_bootOverlay (s : State) (v : Word) : (s.setBc v).bootOverlay = s.bootOverlay := rfl
@[simp] theorem State.setBc_params (s : State) (v : Word) : (s.setBc v).params = s.params := rfl
@[simp] theorem State.setBc_requests (s : State) (v : Word) : (s.setBc v).requests = s.requests := rfl
@[simp] theorem State.setBc_freeIdx (s : State) (v : Word) : (s.setBc v).freeIdx = s.freeIdx := rfl
@[simp] theorem State.setBc_own (s : State) (v : Word) : (s.setBc v).own = s.own := rfl
@[simp] theorem State.setBc_regs_a (s : State) (v : Word) : (s.setBc v).regs.a = s.regs.a := rfl
@[simp] theorem State.setBc_regs_f (s : State) (v : Word) : (s.setBc v).regs.f = s.regs.f := rfl
@[simp] theorem State.setBc_regs_b (s : State) (v : Word) : (s.setBc v).regs.b = hiByte v := rfl
@[simp] theorem State.setBc_regs_c (s : State) (v : Word) : (s.setBc v).regs.c = loByte v := rfl
@[simp] theorem State.setBc_regs_d (s : State) (v : Word) : (s.setBc v).regs.d = s.regs.d := rfl
@[simp] theorem State.setBc_regs_e (s : State) (v : Word) : (s.setBc v).regs.e = s.regs.e := rfl
@[simp] theorem State.setBc_regs_h (s : State) (v : Word) : (s.setBc v).regs.h = s.regs.h := rfl
@[simp] theorem State.setBc_regs_l (s : State) (v : Word) : (s.setBc v).regs.l = s.regs.l := rfl
@[simp] theorem State.setBc_regs_sp (s : State) (v : Word) : (s.setBc v).regs.sp = s.regs.sp := rfl
@[simp] theorem State.setBc_regs_pc (s : State) (v : Word) : (s.setBc v).regs.pc = s.regs.pc := rfl
@[simp] theorem State.setDe_intr (s : State) (v : Word) : (s.setDe v).intr = s.intr := rfl
@[simp] theorem State.setDe_halted (s : State) (v : Word) : (s.setDe v).halted = s.halted := rfl
@[simp] theorem State.setDe_stopped (s : State) (v : Word) : (s.setDe v).stopped = s.stopped := rfl
@[simp] theorem State.setDe_haltBugLatch (s : State) (v : Word) : (s.setDe v).haltBugLatch = s.haltBugLatch := rfl
@[simp] theorem State.setDe_fault (s : State) (v : Word) : (s.setDe v).fault = s.fault := rfl
@[simp] theorem State.setDe_ctl (s : State) (v : Word) : (s.setDe v).ctl = s.ctl := rfl
@[simp] theorem State.setDe_timer (s : State) (v : Word) : (s.setDe v).timer = s.timer := rfl
@[simp] theorem State.setDe_ppu (s : State) (v : Word) : (s.setDe v).ppu = s.ppu := rfl
@[simp] theorem State.setDe_apu (s : State) (v : Word) : (s.setDe v).apu = s.apu := rfl
@[simp] theorem State.setDe_mbc (s : State) (v : Word) : (s.setDe v).mbc = s.mbc := rfl
@[simp] theorem State.setDe_ram (s : State) (v : Word) : (s.setDe v).ram = s.ram := rfl
@[simp] theorem State.setDe_waveRam (s : State) (v : Word) : (s.setDe v).waveRam = s.waveRam := rfl
@[simp] theorem State.setDe_extRam (s : State) (v : Word) : (s.setDe v).extRam = s.extRam := rfl
@[simp] theorem State.setDe_rom (s : State) (v : Word) : (s.setDe v).rom = s.rom := rfl
@[simp] theorem State.setDe_bootRom (s : State) (v : Word) : (s.setDe v).bootRom = s.bootRom := rfl
@[simp] theorem State.setDe_bootOverlay (s : State) (v : Word) : (s.setDe v).bootOverlay = s.bootOverlay := rfl
@[simp] theorem State.setDe_params (s : State) (v : Word) : (s.setDe v).params = s.params := rfl
@[simp] theorem State.setDe_requests (s : State) (v : Word) : (s.setDe v).requests = s.requests := rfl
@[simp] theorem State.setDe_freeIdx (s : State) (v : Word) : (s.setDe v).freeIdx = s.freeIdx := rfl
@[simp] theorem State.setDe_own (s : State) (v : Word) : (s.setDe v).own = s.own := rfl
@[simp] theorem State.setDe_regs_a (s : State) (v : Word) : (s.setDe v).regs.a = s.regs.a := rfl
@[simp] theorem State.setDe_regs_f (s : State) (v : Word) : (s.setDe v).regs.f = s.regs.f := rfl
@[simp] theorem State.setDe_regs_b (s : State) (v : Word) : (s.setDe v).regs.b = s.regs.b := rfl
@[simp] theorem State.setDe_regs_c (s : State) (v : Word) : (s.setDe v).regs.c = s.regs.c := rfl
@[simp] theorem State.setDe_regs_d (s : State) (v : Word) : (s.setDe v).regs.d = hiByte v := rfl
@[simp] theorem State.setDe_regs_e (s : State) (v : Word) : (s.setDe v).regs.e = loByte v := rfl
@[simp] theorem State.setDe_regs_h (s : State) (v : Word) : (s.setDe v).regs.h = s.regs.h := rfl
@[simp] theorem State.setDe_regs_l (s : State) (v : Word) : (s.setDe v).regs.l = s.regs.l := rfl
@[simp] theorem State.setDe_regs_sp (s : State) (v : Word) : (s.setDe v).regs.sp = s.regs.sp := rfl
@[simp] theorem State.setDe_regs_pc (s : State) (v : Word) : (s.setDe v).regs.pc = s.regs.pc := rfl
@[simp] theorem State.setHl_intr (s : State) (v : Word) : (s.setHl v).intr = s.intr := rfl
@[simp] theorem State.setHl_halted (s : State) (v : Word) : (s.setHl v).halted = s.halted := rfl
@[simp] theorem State.setHl_stopped (s : State) (v : Word) : (s.setHl v).stopped = s.stopped := rfl
@[simp] theorem State.setHl_haltBugLatch (s : State) (v : Word) : (s.setHl v).haltBugLatch = s.haltBugLatch := rfl
@[simp] theorem State.setHl_fault (s : State) (v : Word) : (s.setHl v).fault = s.fault := rfl
@[simp] theorem State.setHl_ctl (s : State) (v : Word) : (s.setHl v).ctl = s.ctl := rfl
@[simp] theorem State.setHl_timer (s : State) (v : Word) : (s.setHl v).timer = s.timer := rfl
@[simp] theorem State.setHl_ppu (s : State) (v : Word) : (s.setHl v).ppu = s.ppu := rfl
@[simp] theorem State.setHl_apu (s : State) (v : Word) : (s.setHl v).apu = s.apu := rfl
@[simp] theorem State.setHl_mbc (s : State) (v : Word) : (s.setHl v).mbc = s.mbc := rfl
@[simp] theorem State.setHl_ram (s : State) (v : Word) : (s.setHl v).ram = s.ram := rfl
@[simp] theorem State.setHl_waveRam (s : State) (v : Word) : (s.setHl v).waveRam = s.waveRam := rfl
@[simp] theorem State.setHl_extRam (s : State) (v : Word) : (s.setHl v).extRam = s.extRam := rfl
@[simp] theorem State.setHl_rom (s : State) (v : Word) : (s.setHl v).rom = s.rom := rfl
@[simp] theorem State.setHl_bootRom (s : State) (v : Word) : (s.setHl v).bootRom = s.bootRom := rfl
@[simp] theorem State.setHl_bootOverlay (s : State) (v : Word) : (s.setHl v).bootOverlay = s.bootOverlay := rfl
@[simp] theorem State.setHl_params (s : State) (v : Word) : (s.setHl v).params = s.params := rfl
@[simp] theorem State.setHl_requests (s : State) (v : Word) : (s.setHl v).requests = s.requests := rfl
@[simp] theorem State.setHl_freeIdx (s : State) (v : Word) : (s.setHl v).freeIdx = s.freeIdx := rfl
@[simp] theorem State.setHl_own (s : State) (v : Word) : (s.setHl v).own = s.own := rfl
@[simp] theorem State.setHl_regs_a (s : State) (v : Word) : (s.setHl v).regs.a = s.regs.a := rfl
@[simp] theorem State.setHl_regs_f (s : State) (v : Word) : (s.setHl v).regs.f = s.regs.f := rfl
@[simp] theorem State.setHl_regs_b (s : State) (v : Word) : (s.setHl v).regs.b = s.regs.b := rfl
@[simp] theorem State.setHl_regs_c (s : State) (v : Word) : (s.setHl v).regs.c = s.regs.c := rfl
@[simp] theorem State.setHl_regs_d (s : State) (v : Word) : (s.setHl v).regs.d = s.regs.d := rfl
@[simp] theorem State.setHl_regs_e (s : State) (v : Word) : (s.setHl v).regs.e = s.regs.e := rfl
@[simp] theorem State.setHl_regs_h (s : State) (v : Word) : (s.setHl v).regs.h = hiByte v := rfl
@[simp] theorem State.setHl_regs_l (s : State) (v : Word) : (s.setHl v).regs.l = loByte v := rfl
@[simp] theorem State.setHl_regs_sp (s : State) (v : Word) : (s.setHl v).regs.sp = s.regs.sp := rfl
@[simp] theorem State.setHl_regs_pc (s : State) (v : Word) : (s.setHl v).regs.pc = s.regs.pc := rfl
@[simp] theorem State.setAf_intr (s : State) (v : Word) : (s.setAf v).intr = s.intr := rfl
@[simp] theorem State.setAf_halted (s : State) (v : Word) : (s.setAf v).halted = s.halted := rfl
@[simp] theorem State.setAf_stopped (s : State) (v : Word) : (s.setAf v).stopped = s.stopped := rfl
@[simp] theorem State.setAf_haltBugLatch (s : State) (v : Word) : (s.setAf v).haltBugLatch = s.haltBugLatch := rfl
@[simp] theorem State.setAf_fault (s : State) (v : Word) : (s.setAf v).fault = s.fault := rfl
@[simp] theorem State.setAf_ctl (s : State) (v : Word) : (s.setAf v).ctl = s.ctl := rfl
@[simp] theorem State.setAf_timer (s : State) (v : Word) : (s.setAf v).timer = s.timer := rfl
@[simp] theorem State.setAf_ppu (s : State) (v : Word) : (s.setAf v).ppu = s.ppu := rfl
@[simp] theorem State.setAf_apu (s : State) (v : Word) : (s.setAf v).apu = s.apu := rfl
@[simp] theorem State.setAf_mbc (s : State) (v : Word) : (s.setAf v).mbc = s.mbc := rfl
@[simp] theorem State.setAf_ram (s : State) (v : Word) : (s.setAf v).ram = s.ram := rfl
@[simp] theorem State.setAf_waveRam (s : State) (v : Word) : (s.setAf v).waveRam = s.waveRam := rfl
@[simp] theorem State.setAf_extRam (s : State) (v : Word) : (s.setAf v).extRam = s.extRam := rfl
@[simp] theorem State.setAf_rom (s : State) (v : Word) : (s.setAf v).rom = s.rom := rfl
@[simp] theorem State.setAf_bootRom (s : State) (v : Word) : (s.setAf v).bootRom = s.bootRom := rfl
@[simp] theorem State.setAf_bootOverlay (s : State) (v : Word) : (s.setAf v).bootOverlay = s.bootOverlay := rfl
@[simp] theorem State.setAf_params (s : State) (v : Word) : (s.setAf v).params = s.params := rfl
@[simp] theorem State.setAf_requests (s : State) (v : Word) : (s.setAf v).requests = s.requests := rfl
@[simp] theorem State.setAf_freeIdx (s : State) (v : Word) : (s.setAf v).freeIdx = s.freeIdx := rfl
@[simp] theorem State.setAf_own (s : State) (v : Word) : (s.setAf v).own = s.own := rfl
@[simp] theorem State.setAf_regs_a (s : State) (v : Word) : (s.setAf v).regs.a = hiByte v := rfl
@[simp] theorem State.setAf_regs_f (s : State) (v : Word) : (s.setAf v).regs.f = maskF (loByte v) := rfl
@[simp] theorem State.setAf_regs_b (s : State) (v : Word) : (s.setAf v).regs.b = s.regs.b := rfl
@[simp] theorem State.setAf_regs_c (s : State) (v : Word) : (s.setAf v).regs.c = s.regs.c := rfl
@[simp] theorem State.setAf_regs_d (s : State) (v : Word) : (s.setAf v).regs.d = s.regs.d := rfl
@[simp] theorem State.setAf_regs_e (s : State) (v : Word) : (s.setAf v).regs.e = s.regs.e := rfl
@[simp] theorem State.setAf_regs_h (s : State) (v : Word) : (s.setAf v).regs.h = s.regs.h := rfl
@[simp] theorem State.setAf_regs_l (s : State) (v : Word) : (s.setAf v).regs.l = s.regs.l := rfl
@[simp] theorem State.setAf_regs_sp (s : State) (v : Word) : (s.setAf v).regs.sp = s.regs.sp := rfl
@[simp] theorem State.setAf_regs_pc (s : State) (v : Word) : (s.setAf v).regs.pc = s.regs.pc := rfl
@[simp] theorem State.setFlags_intr (s : State) (z n h c : Bool) : (s.setFlags z n h c).intr = s.intr := rfl
@[simp] theorem State.setFlags_halted (s : State) (z n h c : Bool) : (s.setFlags z n h c).halted = s.halted := rfl
@[simp] theorem State.setFlags_stopped (s : State) (z n h c : Bool) : (s.setFlags z n h c).stopped = s.stopped := rfl
@[simp] theorem State.setFlags_haltBugLatch (s : State) (z n h c : Bool) : (s.setFlags z n h c).haltBugLatch = s.haltBugLatch := rfl
@[simp] theorem State.setFlags_fault (s : State) (z n h c : Bool) : (s.setFlags z n h c).fault = s.fault := rfl
@[simp] theorem State.setFlags_ctl (s : State) (z n h c : Bool) : (s.setFlags z n h c).ctl = s.ctl := rfl
@[simp] theorem State.setFlags_timer (s : State) (z n h c : Bool) : (s.setFlags z n h c).timer = s.timer := rfl
@[simp] theorem State.setFlags_ppu (s : State) (z n h c : Bool) : (s.setFlags z n h c).ppu = s.ppu := rfl
@[simp] theorem State.setFlags_apu (s : State) (z n h c : Bool) : (s.setFlags z n h c).apu = s.apu := rfl
@[simp] theorem State.setFlags_mbc (s : State) (z n h c : Bool) : (s.setFlags z n h c).mbc = s.mbc := rfl
@[simp] theorem State.setFlags_ram (s : State) (z n h c : Bool) : (s.setFlags z n h c).ram = s.ram := rfl
@[simp] theorem State.setFlags_waveRam (s : State) (z n h c : Bool) : (s.setFlags z n h c).waveRam = s.waveRam := rfl
@[simp] theorem State.setFlags_extRam (s : State) (z n h c : Bool) : (s.setFlags z n h c).extRam = s.extRam := rfl
@[simp] theorem State.setFlags_rom (s : State) (z n h c : Bool) : (s.setFlags z n h c).rom = s.rom := rfl
@[simp] theorem State.setFlags_bootRom (s : State) (z n h c : Bool) : (s.setFlags z n h c).bootRom = s.bootRom := rfl
@[simp] theorem State.setFlags_bootOverlay (s : State) (z n h c : Bool) : (s.setFlags z n h c).bootOverlay = s.bootOverlay := rfl
@[simp] theorem State.setFlags_params (s : State) (z n h c : Bool) : (s.setFlags z n h c).params = s.params := rfl
@[simp] theorem State.setFlags_requests (s : State) (z n h c : Bool) : (s.setFlags z n h c).requests = s.requests := rfl
@[simp] theorem State.setFlags_freeIdx (s : State) (z n h c : Bool) : (s.setFlags z n h c).freeIdx = s.freeIdx := rfl
@[simp] theorem State.setFlags_own (s : State) (z n h c : Bool) : (s.setFlags z n h c).own = s.own := rfl
@[simp] theorem State.setFlags_regs_a (s : State) (z n h c : Bool) : (s.setFlags z n h c).regs.a = s.regs.a := rfl
@[simp] theorem State.setFlags_regs_f (s : State) (z n h c : Bool) : (s.setFlags z n h c).regs.f = maskF (packF z n h c) := rfl
@[simp] theorem State.setFlags_regs_b (s : State) (z n h c : Bool) : (s.setFlags z n h c).regs.b = s.regs.b := rfl
@[simp] theorem State.setFlags_regs_c (s : State) (z n h c : Bool) : (s.setFlags z n h c).regs.c = s.regs.c := rfl
@[simp] theorem State.setFlags_regs_d (s : State) (z n h c : Bool) : (s.setFlags z n h c).regs.d = s.regs.d := rfl
@[simp] theorem State.setFlags_regs_e (s : State) (z n h c : Bool) : (s.setFlags z n h c).regs.e = s.regs.e := rfl
@[simp] theorem State.setFlags_regs_h (s : State) (z n h c : Bool) : (s.setFlags z n h c).regs.h = s.regs.h := rfl
@[simp] theorem State.setFlags_regs_l (s : State) (z n h c : Bool) : (s.setFlags z n h c).regs.l = s.regs.l := rfl
@[simp] theorem State.setFlags_regs_sp (s : State) (z n h c : Bool) : (s.setFlags z n h c).regs.sp = s.regs.sp := rfl
@[simp] theorem State.setFlags_regs_pc (s : State) (z n h c : Bool) : (s.setFlags z n h c).regs.pc = s.regs.pc := rfl
@[simp] theorem State.setR8_intr (s : State) (r : R8) (v : Byte) : (s.setR8 r v).intr = s.intr := rfl
@[simp] theorem State.setR8_halted (s : State) (r : R8) (v : Byte) : (s.setR8 r v).halted = s.halted := rfl
@[simp] theorem State.setR8_stopped (s : State) (r : R8) (v : Byte) : (s.setR8 r v).stopped = s.stopped := rfl
@[simp] theorem State.setR8_haltBugLatch (s : State) (r : R8) (v : Byte) : (s.setR8 r v).haltBugLatch = s.haltBugLatch := rfl
@[simp] theorem State.setR8_fault (s : State) (r : R8) (v : Byte) : (s.setR8 r v).fault = s.fault := rfl
@[simp] theorem State.setR8_ctl (s : State) (r : R8) (v : Byte) : (s.setR8 r v).ctl = s.ctl := rfl
@[simp] theorem State.setR8_timer (s : State) (r : R8) (v : Byte) : (s.setR8 r v).timer = s.timer := rfl
@[simp] theorem State.setR8_ppu (s : State) (r : R8) (v : Byte) : (s.setR8 r v).ppu = s.ppu := rfl
@[simp] theorem State.setR8_apu (s : State) (r : R8) (v : Byte) : (s.setR8 r v).apu = s.apu := rfl
@[simp] theorem State.setR8_mbc (s : State) (r : R8) (v : Byte) : (s.setR8 r v).mbc = s.mbc := rfl
@[simp] theorem State.setR8_ram (s : State) (r : R8) (v : Byte) : (s.setR8 r v).ram = s.ram := rfl
@[simp] theorem State.setR8_waveRam (s : State) (r : R8) (v : Byte) : (s.setR8 r v).waveRam = s.waveRam := rfl
@[simp] theorem State.setR8_extRam (s : State) (r : R8) (v : Byte) : (s.setR8 r v).extRam = s.extRam := rfl
@[simp] theorem State.setR8_rom (s : State) (r : R8) (v : Byte) : (s.setR8 r v).rom = s.rom := rfl
@[simp] theorem State.setR8_bootRom (s : State) (r : R8) (v : Byte) : (s.setR8 r v).bootRom = s.bootRom := rfl
@[simp] theorem State.setR8_bootOverlay (s : State) (r : R8) (v : Byte) : (s.setR8 r v).bootOverlay = s.bootOverlay := rfl
@[simp] theorem State.setR8_params (s : State) (r : R8) (v : Byte) : (s.setR8 r v).params = s.params := rfl
@[simp] theorem State.setR8_requests (s : State) (r : R8) (v : Byte) : (s.setR8 r v).requests = s.requests := rfl
@[simp] theorem State.setR8_freeIdx (s : State) (r : R8) (v : Byte) : (s.setR8 r v).freeIdx = s.freeIdx := rfl
@[simp] theorem State.setR8_own (s : State) (r : R8) (v : Byte) : (s.setR8 r v).own = s.own := rfl
@[simp] theorem State.setR16_intr (s : State) (r : R16) (v : Word) : (s.setR16 r v).intr = s.intr := by cases r <;> rfl
@[simp] theorem State.setR16_halted (s : State) (r : R16) (v : Word) : (s.setR16 r v).halted = s.halted := by cases r <;> rfl
@[simp] theorem State.setR16_stopped (s : State) (r : R16) (v : Word) : (s.setR16 r v).stopped = s.stopped := by cases r <;> rfl
@[simp] theorem State.setR16_haltBugLatch (s : State) (r : R16) (v : Word) : (s.setR16 r v).haltBugLatch = s.haltBugLatch := by cases r <;> rfl
@[simp] theorem State.setR16_fault (s : State) (r : R16) (v : Word) : (s.setR16 r v).fault = s.fault := by cases r <;> rfl
@[simp] theorem State.setR16_ctl (s : State) (r : R16) (v : Word) : (s.setR16 r v).ctl = s.ctl := by cases r <;> rfl
@[simp] theorem State.setR16_timer (s : State) (r : R16) (v : Word) : (s.setR16 r v).timer = s.timer := by cases r <;> rfl
@[simp] theorem State.setR16_ppu (s : State) (r : R16) (v : Word) : (s.setR16 r v).ppu = s.ppu := by cases r <;> rfl
@[simp] theorem State.setR16_apu (s : State) (r : R16) (v : Word) : (s.setR16 r v).apu = s.apu := by cases r <;> rfl
@[simp] theorem State.setR16_mbc (s : State) (r : R16) (v : Word) : (s.setR16 r v).mbc = s.mbc := by cases r <;> rfl
@[simp] theorem State.setR16_ram (s : State) (r : R16) (v : Word) : (s.setR16 r v).ram = s.ram := by cases r <;> rfl
@[simp] theorem State.setR16_waveRam (s : State) (r : R16) (v : Word) : (s.setR16 r v).waveRam = s.waveRam := by cases r <;> rfl
@[simp] theorem State.setR16_extRam (s : State) (r : R16) (v : Word) : (s.setR16 r v).extRam = s.extRam := by cases r <;> rfl
@[simp] theorem State.setR16_rom (s : State) (r : R16) (v : Word) : (s.setR16 r v).rom = s.rom := by cases r <;> rfl
@[simp] theorem State.setR16_bootRom (s : State) (r : R16) (v : Word) : (s.setR16 r v).bootRom = s.bootRom := by cases r <;> rfl
@[simp] theorem State.setR16_bootOverlay (s : State) (r : R16) (v : Word) : (s.setR16 r v).bootOverlay = s.bootOverlay := by cases r <;> rfl
@[simp] theorem State.setR16_params (s : State) (r : R16) (v : Word) : (s.setR16 r v).params = s.params := by cases r <;> rfl
@[simp] theorem State.setR16_requests (s : State) (r : R16) (v : Word) : (s.setR16 r v).requests = s.requests := by cases r <;> rfl
@[simp] theorem State.setR16_freeIdx (s : State) (r : R16) (v : Word) : (s.setR16 r v).freeIdx = s.freeIdx := by cases r <;> rfl
@[simp] theorem State.setR16_own (s : State) (r : R16) (v : Word) : (s.setR16 r v).own = s.own := by cases r <;> rfl
@[simp] theorem State.setQ16_intr (s : State) (r : Q16) (v : Word) : (s.setQ16 r v).intr = s.intr := by cases r <;> rfl
@[simp] theorem State.setQ16_halted (s : State) (r : Q16) (v : Word) : (s.setQ16 r v).halted = s.halted := by cases r <;> rfl
@[simp] theorem State.setQ16_stopped (s : State) (r : Q16) (v : Word) : (s.setQ16 r v).stopped = s.stopped := by cases r <;> rfl
@[simp] theorem State.setQ16_haltBugLatch (s : State) (r : Q16) (v : Word) : (s.setQ16 r v).haltBugLatch = s.haltBugLatch := by cases r <;> rfl
@[simp] theorem State.setQ16_fault (s : State) (r : Q16) (v : Word) : (s.setQ16 r v).fault = s.fault := by cases r <;> rfl
@[simp] theorem State.setQ16_ctl (s : State) (r : Q16) (v : Word) : (s.setQ16 r v).ctl = s.ctl := by cases r <;> rfl
@[simp] theorem State.setQ16_timer (s : State) (r : Q16) (v : Word) : (s.setQ16 r v).timer = s.timer := by cases r <;> rfl
@[simp] theorem State.setQ16_ppu (s : State) (r : Q16) (v : Word) : (s.setQ16 r v).ppu = s.ppu := by cases r <;> rfl
@[simp] theorem State.setQ16_apu (s : State) (r : Q16) (v : Word) : (s.setQ16 r v).apu = s.apu := by cases r <;> rfl
@[simp] theorem State.setQ16_mbc (s : State) (r : Q16) (v : Word) : (s.setQ16 r v).mbc = s.mbc := by cases r <;> rfl
@[simp] theorem State.setQ16_ram (s : State) (r : Q16) (v : Word) : (s.setQ16 r v).ram = s.ram := by cases r <;> rfl
@[simp] theorem State.setQ16_waveRam (s : State) (r : Q16) (v : Word) : (s.setQ16 r v).waveRam = s.waveRam := by cases r <;> rfl
@[simp] theorem State.setQ16_extRam (s : State) (r : Q16) (v : Word) : (s.setQ16 r v).extRam = s.extRam := by cases r <;> rfl
@[simp] theorem State.setQ16_rom (s : State) (r : Q16) (v : Word) : (s.setQ16 r v).rom = s.rom := by cases r <;> rfl
@[simp] theorem State.setQ16_bootRom (s : State) (r : Q16) (v : Word) : (s.setQ16 r v).bootRom = s.bootRom := by cases r <;> rfl
@[simp] theorem State.setQ16_bootOverlay (s : State) (r : Q16) (v : Word) : (s.setQ16 r v).bootOverlay = s.bootOverlay := by cases r <;> rfl
@[simp] theorem State.setQ16_params (s : State) (r : Q16) (v : Word) : (s.setQ16 r v).params = s.params := by cases r <;> rfl
@[simp] theorem State.setQ16_requests (s : State) (r : Q16) (v : Word) : (s.setQ16 r v).requests = s.requests := by cases r <;> rfl
@[simp] theorem State.setQ16_freeIdx (s : State) (r : Q16) (v : Word) : (s.setQ16 r v).freeIdx = s.freeIdx := by cases r <;> rfl
@[simp] theorem State.setQ16_own (s : State) (r : Q16) (v : Word) : (s.setQ16 r v).own = s.own := by cases r <;> rfl
@[simp] theorem State.setR8_regs_f (s : State) (r : R8) (v : Byte) : (s.setR8 r v).regs.f = s.regs.f := by cases r <;> rfl
@[simp] theorem State.setR8_regs_sp (s : State) (r : R8) (v : Byte) : (s.setR8 r v).regs.sp = s.regs.sp := by cases r <;> rfl
@[simp] theorem State.setR8_regs_pc (s : State) (r : R8) (v : Byte) : (s.setR8 r v).regs.pc = s.regs.pc := by cases r <;> rfl
@[simp] theorem State.setR16_regs_a (s : State) (r : R16) (v : Word) : (s.setR16 r v).regs.a = s.regs.a := by cases r <;> rfl
@[simp] theorem State.setR16_regs_f (s : State) (r : R16) (v : Word) : (s.setR16 r v).regs.f = s.regs.f := by cases r <;> rfl
@[simp] theorem State.setR16_pc (s : State) (r : R16) (v : Word) : (s.setR16 r v).regs.pc = s.regs.pc := by cases r <;> rfl
@[simp] theorem State.setQ16_sp (s : State) (r : Q16) (v : Word) : (s.setQ16 r v).regs.sp = s.regs.sp := by cases r <;> rfl
@[simp] theorem State.setQ16_pc (s : State) (r : Q16) (v : Word) : (s.setQ16 r v).regs.pc = s.regs.pc := by cases r <;> rfl

/-- Reading the register just written. -/
@[simp] theorem State.r8_setR8_same (s : State) (r : R8) (v : Byte) : (s.setR8 r v).r8 r = v := by cases r <;> rfl

/-- Reading another register than the one written. -/
theorem State.r8_setR8_other (s : State) (r q : R8) (v : Byte) (h : q ≠ r) : (s.setR8 r v).r8 q = s.r8 q := by
  cases r <;> cases q <;> first | rfl | exact absurd rfl h

/-- The high byte of a word made of two bytes. -/
@[simp] theorem hiByte_mkWord (hi lo : Byte) : hiByte (mkWord hi lo) = hi := by
  unfold hiByte mkWord
  ext i hI
  simp only [BitVec.getElem_extractLsb', BitVec.getLsbD_append]
  have : ¬ 8 + i < 8 := by omega
  simp [this, BitVec.getLsbD_eq_getElem hI]

/-- The low byte of a word made of two bytes. -/
@[simp] theorem loByte_mkWord (hi lo : Byte) : loByte (mkWord hi lo) = lo := by
  unfold loByte mkWord
  ext i hI
  rw [BitVec.getElem_extractLsb', Nat.zero_add, BitVec.getLsbD_append]
  simp [hI]

/-- A word is the word of its two bytes. -/
@[simp] theorem mkWord_hi_lo (w : Word) : mkWord (hiByte w) (loByte w) = w := by
  unfold hiByte loByte mkWord
  ext i hI
  simp only [BitVec.getElem_append, BitVec.getElem_extractLsb']
  split
  · simp [BitVec.getLsbD_eq_getElem hI]
  · next h =>
    have e : 8 + (i - 8) = i := by omega
    simp [e, BitVec.getLsbD_eq_getElem hI]

/-- Reading the pair just written. -/
@[simp] theorem State.r16_setR16_same (s : State) (p : R16) (v : Word) : (s.setR16 p v).r16 p = v := by
  cases p <;> first | rfl | exact mkWord_hi_lo v

/-- Reading SP back. -/
@[simp] theorem State.sp_setSp (s : State) (v : Word) : (s.setSp v).sp = v := rfl

/-- Reading pc back. -/
@[simp] theorem State.pc_setPc (s : State) (v : Word) : (s.setPc v).pc = v := rfl

/-- F's low nibble is 0 after a write of F (R25). -/
@[simp] theorem maskF_low (v : Byte) : maskF v &&& 0x0F = 0 := by
  unfold maskF
  rw [BitVec.and_assoc]
  exact BitVec.and_zero

/-- The four flags are already in F's form (R25). -/
@[simp] theorem maskF_packF (z n h c : Bool) : maskF (packF z n h c) = packF z n h c := by
  cases z <;> cases n <;> cases h <;> cases c <;> decide

end Sys2Proof.Machine
end

