-- ==== Sys2Proof/Laws/Bus.lean ====
section
/-! SUPPORT. The laws of the bus: what a write leaves alone, which reads it may change, and that it keeps the memories' form. -/

namespace Sys2Proof.Machine

/-- The range of a region (spec/20_memory.md R53). -/
theorem regionOf_romFixed (a : Word) : regionOf a = .romFixed ↔ 0x0 ≤ a.toNat ∧ a.toNat < 0x4000 := by
  have := a.isLt
  unfold regionOf
  constructor
  · intro h
    split_ifs at h
    omega
  · intro h
    try rw [if_pos (by omega)]

/-- The range of a region (spec/20_memory.md R53). -/
theorem regionOf_romBanked (a : Word) : regionOf a = .romBanked ↔ 0x4000 ≤ a.toNat ∧ a.toNat < 0x8000 := by
  have := a.isLt
  unfold regionOf
  constructor
  · intro h
    split_ifs at h
    omega
  · intro h
    repeat rw [if_neg (by omega)]
    try rw [if_pos (by omega)]

/-- The range of a region (spec/20_memory.md R53). -/
theorem regionOf_vram (a : Word) : regionOf a = .vram ↔ 0x8000 ≤ a.toNat ∧ a.toNat < 0xA000 := by
  have := a.isLt
  unfold regionOf
  constructor
  · intro h
    split_ifs at h
    omega
  · intro h
    repeat rw [if_neg (by omega)]
    try rw [if_pos (by omega)]

/-- The range of a region (spec/20_memory.md R53). -/
theorem regionOf_extRam (a : Word) : regionOf a = .extRam ↔ 0xA000 ≤ a.toNat ∧ a.toNat < 0xC000 := by
  have := a.isLt
  unfold regionOf
  constructor
  · intro h
    split_ifs at h
    omega
  · intro h
    repeat rw [if_neg (by omega)]
    try rw [if_pos (by omega)]

/-- The range of a region (spec/20_memory.md R53). -/
theorem regionOf_wram (a : Word) : regionOf a = .wram ↔ 0xC000 ≤ a.toNat ∧ a.toNat < 0xE000 := by
  have := a.isLt
  unfold regionOf
  constructor
  · intro h
    split_ifs at h
    omega
  · intro h
    repeat rw [if_neg (by omega)]
    try rw [if_pos (by omega)]

/-- The range of a region (spec/20_memory.md R53). -/
theorem regionOf_echo (a : Word) : regionOf a = .echo ↔ 0xE000 ≤ a.toNat ∧ a.toNat < 0xFE00 := by
  have := a.isLt
  unfold regionOf
  constructor
  · intro h
    split_ifs at h
    omega
  · intro h
    repeat rw [if_neg (by omega)]
    try rw [if_pos (by omega)]

/-- The range of a region (spec/20_memory.md R53). -/
theorem regionOf_oam (a : Word) : regionOf a = .oam ↔ 0xFE00 ≤ a.toNat ∧ a.toNat < 0xFEA0 := by
  have := a.isLt
  unfold regionOf
  constructor
  · intro h
    split_ifs at h
    omega
  · intro h
    repeat rw [if_neg (by omega)]
    try rw [if_pos (by omega)]

/-- The range of a region (spec/20_memory.md R53). -/
theorem regionOf_unusable (a : Word) : regionOf a = .unusable ↔ 0xFEA0 ≤ a.toNat ∧ a.toNat < 0xFF00 := by
  have := a.isLt
  unfold regionOf
  constructor
  · intro h
    split_ifs at h
    omega
  · intro h
    repeat rw [if_neg (by omega)]
    try rw [if_pos (by omega)]

/-- The range of a region (spec/20_memory.md R53). -/
theorem regionOf_io (a : Word) : regionOf a = .io ↔ 0xFF00 ≤ a.toNat ∧ a.toNat < 0xFF80 := by
  have := a.isLt
  unfold regionOf
  constructor
  · intro h
    split_ifs at h
    omega
  · intro h
    repeat rw [if_neg (by omega)]
    try rw [if_pos (by omega)]

/-- The range of a region (spec/20_memory.md R53). -/
theorem regionOf_hram (a : Word) : regionOf a = .hram ↔ 0xFF80 ≤ a.toNat ∧ a.toNat < 0xFFFF := by
  have := a.isLt
  unfold regionOf
  constructor
  · intro h
    split_ifs at h
    omega
  · intro h
    repeat rw [if_neg (by omega)]
    try rw [if_pos (by omega)]

/-- The range of a region (spec/20_memory.md R53). -/
theorem regionOf_ie (a : Word) : regionOf a = .ie ↔ 0xFFFF ≤ a.toNat ∧ a.toNat < 0x10000 := by
  have := a.isLt
  unfold regionOf
  constructor
  · intro h
    split_ifs at h
    omega
  · intro h
    repeat rw [if_neg (by omega)]

@[simp] theorem ioWrite_regs (s : State) (a : Word) (v : Byte) : (ioWrite s a v).regs = s.regs := by
  unfold ioWrite
  cases ioRegOf a <;> rfl

@[simp] theorem mapWrite_regs (s : State) (a : Word) (v : Byte) : (mapWrite s a v).regs = s.regs := by
  unfold mapWrite
  cases regionOf a <;> first | rfl | exact ioWrite_regs s a v | (dsimp only; split <;> rfl)

@[simp] theorem ioWrite_halted (s : State) (a : Word) (v : Byte) : (ioWrite s a v).halted = s.halted := by
  unfold ioWrite
  cases ioRegOf a <;> rfl

@[simp] theorem mapWrite_halted (s : State) (a : Word) (v : Byte) : (mapWrite s a v).halted = s.halted := by
  unfold mapWrite
  cases regionOf a <;> first | rfl | exact ioWrite_halted s a v | (dsimp only; split <;> rfl)

@[simp] theorem ioWrite_stopped (s : State) (a : Word) (v : Byte) : (ioWrite s a v).stopped = s.stopped := by
  unfold ioWrite
  cases ioRegOf a <;> rfl

@[simp] theorem mapWrite_stopped (s : State) (a : Word) (v : Byte) : (mapWrite s a v).stopped = s.stopped := by
  unfold mapWrite
  cases regionOf a <;> first | rfl | exact ioWrite_stopped s a v | (dsimp only; split <;> rfl)

@[simp] theorem ioWrite_haltBugLatch (s : State) (a : Word) (v : Byte) : (ioWrite s a v).haltBugLatch = s.haltBugLatch := by
  unfold ioWrite
  cases ioRegOf a <;> rfl

@[simp] theorem mapWrite_haltBugLatch (s : State) (a : Word) (v : Byte) : (mapWrite s a v).haltBugLatch = s.haltBugLatch := by
  unfold mapWrite
  cases regionOf a <;> first | rfl | exact ioWrite_haltBugLatch s a v | (dsimp only; split <;> rfl)

@[simp] theorem ioWrite_fault (s : State) (a : Word) (v : Byte) : (ioWrite s a v).fault = s.fault := by
  unfold ioWrite
  cases ioRegOf a <;> rfl

@[simp] theorem mapWrite_fault (s : State) (a : Word) (v : Byte) : (mapWrite s a v).fault = s.fault := by
  unfold mapWrite
  cases regionOf a <;> first | rfl | exact ioWrite_fault s a v | (dsimp only; split <;> rfl)

@[simp] theorem ioWrite_ctl (s : State) (a : Word) (v : Byte) : (ioWrite s a v).ctl = s.ctl := by
  unfold ioWrite
  cases ioRegOf a <;> rfl

@[simp] theorem mapWrite_ctl (s : State) (a : Word) (v : Byte) : (mapWrite s a v).ctl = s.ctl := by
  unfold mapWrite
  cases regionOf a <;> first | rfl | exact ioWrite_ctl s a v | (dsimp only; split <;> rfl)

@[simp] theorem ioWrite_rom (s : State) (a : Word) (v : Byte) : (ioWrite s a v).rom = s.rom := by
  unfold ioWrite
  cases ioRegOf a <;> rfl

@[simp] theorem mapWrite_rom (s : State) (a : Word) (v : Byte) : (mapWrite s a v).rom = s.rom := by
  unfold mapWrite
  cases regionOf a <;> first | rfl | exact ioWrite_rom s a v | (dsimp only; split <;> rfl)

@[simp] theorem ioWrite_bootRom (s : State) (a : Word) (v : Byte) : (ioWrite s a v).bootRom = s.bootRom := by
  unfold ioWrite
  cases ioRegOf a <;> rfl

@[simp] theorem mapWrite_bootRom (s : State) (a : Word) (v : Byte) : (mapWrite s a v).bootRom = s.bootRom := by
  unfold mapWrite
  cases regionOf a <;> first | rfl | exact ioWrite_bootRom s a v | (dsimp only; split <;> rfl)

@[simp] theorem ioWrite_params (s : State) (a : Word) (v : Byte) : (ioWrite s a v).params = s.params := by
  unfold ioWrite
  cases ioRegOf a <;> rfl

@[simp] theorem mapWrite_params (s : State) (a : Word) (v : Byte) : (mapWrite s a v).params = s.params := by
  unfold mapWrite
  cases regionOf a <;> first | rfl | exact ioWrite_params s a v | (dsimp only; split <;> rfl)

@[simp] theorem ioWrite_requests (s : State) (a : Word) (v : Byte) : (ioWrite s a v).requests = s.requests := by
  unfold ioWrite
  cases ioRegOf a <;> rfl

@[simp] theorem mapWrite_requests (s : State) (a : Word) (v : Byte) : (mapWrite s a v).requests = s.requests := by
  unfold mapWrite
  cases regionOf a <;> first | rfl | exact ioWrite_requests s a v | (dsimp only; split <;> rfl)

@[simp] theorem ioWrite_ime (s : State) (a : Word) (v : Byte) : (ioWrite s a v).intr.ime = s.intr.ime := by
  unfold ioWrite
  cases ioRegOf a <;> rfl

@[simp] theorem mapWrite_ime (s : State) (a : Word) (v : Byte) : (mapWrite s a v).intr.ime = s.intr.ime := by
  unfold mapWrite
  cases regionOf a <;> first | rfl | exact ioWrite_ime s a v | (dsimp only; split <;> rfl)

@[simp] theorem ioWrite_eiPending (s : State) (a : Word) (v : Byte) : (ioWrite s a v).intr.eiPending = s.intr.eiPending := by
  unfold ioWrite
  cases ioRegOf a <;> rfl

@[simp] theorem mapWrite_eiPending (s : State) (a : Word) (v : Byte) : (mapWrite s a v).intr.eiPending = s.intr.eiPending := by
  unfold mapWrite
  cases regionOf a <;> first | rfl | exact ioWrite_eiPending s a v | (dsimp only; split <;> rfl)

/-- A read does not look at the register file. -/
@[simp] theorem mapRead_mapRegs (s : State) (g : Regs → Regs) (a : Word) : mapRead (s.mapRegs g) a = mapRead s a := rfl

@[simp] theorem mapRead_setR8 (s : State) (r : R8) (v : Byte) (a : Word) : mapRead (s.setR8 r v) a = mapRead s a := rfl

@[simp] theorem mapRead_setPc (s : State) (v a : Word) : mapRead (s.setPc v) a = mapRead s a := rfl

@[simp] theorem mapRead_setSp (s : State) (v a : Word) : mapRead (s.setSp v) a = mapRead s a := rfl

@[simp] theorem mapRead_setAcc (s : State) (v : Byte) (a : Word) : mapRead (s.setAcc v) a = mapRead s a := rfl

@[simp] theorem mapRead_setF (s : State) (v : Byte) (a : Word) : mapRead (s.setF v) a = mapRead s a := rfl

@[simp] theorem mapRead_setHl (s : State) (v a : Word) : mapRead (s.setHl v) a = mapRead s a := rfl

@[simp] theorem mapRead_setFlags (s : State) (z n h c : Bool) (a : Word) :
    mapRead (s.setFlags z n h c) a = mapRead s a := rfl

@[simp] theorem mapRead_setR16 (s : State) (p : R16) (v a : Word) : mapRead (s.setR16 p v) a = mapRead s a := by
  cases p <;> rfl

@[simp] theorem mapRead_setQ16 (s : State) (p : Q16) (v a : Word) : mapRead (s.setQ16 p v) a = mapRead s a := by
  cases p <;> rfl

/-- A write does not look at the register file. -/
theorem mapWrite_mapRegs (s : State) (g : Regs → Regs) (a : Word) (v : Byte) :
    mapWrite (s.mapRegs g) a v = (mapWrite s a v).mapRegs g := by
  unfold mapWrite
  cases regionOf a <;> first
    | rfl
    | (show ioWrite (s.mapRegs g) a v = (ioWrite s a v).mapRegs g; unfold ioWrite; cases ioRegOf a <;> rfl)
    | (show (if extRamOn s.params s.mbc = true then _ else _) = State.mapRegs (if extRamOn s.params s.mbc = true then _ else _) g
       by_cases hx : extRamOn s.params s.mbc = true
       · rw [if_pos hx, if_pos hx]; rfl
       · rw [if_neg hx, if_neg hx])

/-- A write keeps the canonical form of RAM. -/
theorem mapWrite_ram_wf (s : State) (a : Word) (v : Byte) (h : s.ram.wf = true) : (mapWrite s a v).ram.wf = true := by
  unfold mapWrite
  cases regionOf a <;> first
    | exact h
    | exact Memory.wf_write _ _ _ h
    | (unfold ioWrite; cases ioRegOf a <;> first | exact h | exact Memory.wf_write _ _ _ h)
    | (dsimp only; split <;> exact h)

/-- Wave RAM of free bytes is in the canonical form. -/
theorem waveOpen_wf (d : ApuDetail) (a : Apu) (wave : Memory) (addr : Nat) (v : Byte) : (waveOpen d a wave addr v).wf = true :=
  Memory.wfFrom_le _ 0xFF30 0 (Nat.zero_le _) (Memory.wfFrom_ofBytes _ _)

/-- A write to an APU register keeps the canonical form of wave RAM. -/
theorem waveAfter_wf (d : ApuDetail) (a : Apu) (wave : Memory) (r : ApuReg) (addr : Nat) (v : Byte) (h : wave.wf = true) :
    (a.waveAfter d wave r addr v).wf = true := by
  unfold Apu.waveAfter
  split
  · exact waveOpen_wf d a wave addr v
  · exact h

/-- A write to wave RAM keeps its canonical form. -/
theorem waveStore_wf (d : ApuDetail) (a : Apu) (wave : Memory) (addr : Nat) (v : Byte) (h : wave.wf = true) :
    (a.waveStore d wave addr v).wf = true := by
  unfold Apu.waveStore
  split
  · exact Memory.wf_write _ _ _ h
  · exact waveOpen_wf d a wave addr v

/-- A write keeps the canonical form of wave RAM. -/
theorem mapWrite_waveRam_wf (s : State) (a : Word) (v : Byte) (h : s.waveRam.wf = true) : (mapWrite s a v).waveRam.wf = true := by
  unfold mapWrite
  cases regionOf a <;> first
    | exact h
    | (unfold ioWrite; cases ioRegOf a <;> first | exact h | exact waveAfter_wf _ _ _ _ _ _ h | exact waveStore_wf _ _ _ _ _ h)
    | (dsimp only; split <;> exact h)

/-- A write keeps the canonical form of external RAM. -/
theorem mapWrite_extRam_wf (s : State) (a : Word) (v : Byte) (h : s.extRam.wf = true) :
    (mapWrite s a v).extRam.wf = true := by
  unfold mapWrite
  cases regionOf a <;> first
    | exact h
    | (unfold ioWrite; cases ioRegOf a <;> exact h)
    | (dsimp only; split; exact Memory.wf_write _ _ _ h; exact h)

/-- A read of a RAM address is a read of its byte. -/
theorem mapRead_ramKey (s : State) (a : Word) (k : Nat) (h : ramKey a = some k) : mapRead s a = s.ram.read k := by
  unfold ramKey at h
  unfold mapRead
  cases hr : regionOf a <;> rw [hr] at h <;> cases h <;> rfl

/-- A write to a RAM address stores its byte. -/
theorem mapWrite_ramKey (s : State) (a : Word) (v : Byte) (k : Nat) (h : ramKey a = some k) :
    mapWrite s a v = s.storeRam k v := by
  unfold ramKey at h
  unfold mapWrite
  cases hr : regionOf a <;> rw [hr] at h <;> cases h <;> rfl

/-- Read after write at a RAM address (R59, R67). -/
theorem mapRead_mapWrite_same (s : State) (a : Word) (v : Byte) (hw : s.ram.wf = true) (h : ramKey a ≠ none) :
    mapRead (mapWrite s a v) a = v := by
  obtain ⟨k, hk⟩ := Option.ne_none_iff_exists'.mp h
  rw [mapWrite_ramKey s a v k hk, mapRead_ramKey _ a k hk]
  exact Memory.read_write_same _ _ _ hw

/-- An echo address mirrors the address 0x2000 below it (R54). -/
theorem echoOf_toNat (a : Word) (h : regionOf a = .echo) : (echoOf a).toNat = a.toNat - 0x2000 := by
  have := (regionOf_echo a).mp h
  unfold echoOf
  rw [BitVec.toNat_sub]
  simp
  omega

/-- A store into RAM changes what another address reads as only if it is the same byte of RAM. -/
theorem mapRead_storeRam (s : State) (k : Nat) (v : Byte) (b : Word) (h : ramKey b ≠ some k) :
    mapRead (s.storeRam k v) b = mapRead s b := by
  have key : ∀ j, j ≠ k → (s.storeRam k v).ram.read j = s.ram.read j :=
    fun j hj => Memory.read_write_other _ _ _ _ hj
  unfold ramKey at h
  unfold mapRead
  cases hr : regionOf b <;> rw [hr] at h
  case io =>
    show ioRead _ b = ioRead _ b
    unfold ioRead
    cases ioRegOf b <;> rfl
  all_goals first | rfl | exact key _ (fun e => h (congrArg some e))

/-- RAM keys below 0xFF00 or above 0xFF7F: never an I/O address. -/
theorem ramKey_range (b : Word) (k : Nat) (h : ramKey b = some k) :
    0x8000 ≤ k ∧ k < 0xFFFF ∧ ¬(0xFEA0 ≤ k ∧ k < 0xFF80) := by
  unfold ramKey at h
  cases hr : regionOf b <;> rw [hr] at h <;> cases h
  · have := (regionOf_vram b).mp hr; omega
  · have := (regionOf_wram b).mp hr; omega
  · have := (regionOf_echo b).mp hr; rw [echoOf_toNat b hr]; omega
  · have := (regionOf_oam b).mp hr; omega
  · have := (regionOf_hram b).mp hr; omega

/-- An I/O register does not read the MBC. -/
theorem ioRead_mbc (s : State) (m : Mbc) (b : Word) : ioRead { s with mbc := m } b = ioRead s b := by
  unfold ioRead
  cases ioRegOf b <;> rfl

/-- What a write of an MBC command leaves readable as before: everything outside the two switched windows (R56). -/
theorem mapRead_mbc (s : State) (m : Mbc) (b : Word) (h : regionOf b ≠ .romBanked) (h' : regionOf b ≠ .extRam) :
    mapRead { s with mbc := m } b = mapRead s b := by
  unfold mapRead
  cases hr : regionOf b
  case io => exact ioRead_mbc s m b
  all_goals first | exact absurd hr h | exact absurd hr h' | rfl

/-- The address of a register that has one of its own (R32, R310, R341, R372). -/
def IoReg.addr : IoReg → Nat
  | .ifl => 0xFF0F
  | .div => 0xFF04
  | .tima => 0xFF05
  | .tma => 0xFF06
  | .tac => 0xFF07
  | .lcdc => 0xFF40
  | .stat => 0xFF41
  | .scy => 0xFF42
  | .scx => 0xFF43
  | .ly => 0xFF44
  | .lyc => 0xFF45
  | .bgp => 0xFF47
  | .obp0 => 0xFF48
  | .obp1 => 0xFF49
  | .wy => 0xFF4A
  | .wx => 0xFF4B
  | .bootOff => 0xFF50
  | .apu _ => 0
  | .wave => 0
  | .platform => 0

/-- Which register stands at an address: the address of the register, or one of the three kinds with several addresses. -/
theorem ioRegOf_addr (a : Word) :
    a.toNat = (ioRegOf a).addr ∨ (∃ r, ioRegOf a = .apu r) ∨ (ioRegOf a = .wave ∧ 0xFF30 ≤ a.toNat ∧ a.toNat ≤ 0xFF3F)
      ∨ ioRegOf a = .platform := by
  unfold ioRegOf
  split
  case h_18 =>
    right
    split
    · exact .inl ⟨_, rfl⟩
    · split
      · next hh => exact .inr (.inl ⟨rfl, hh⟩)
      · exact .inr (.inr rfl)
  all_goals exact .inl ‹_›

/-- Two addresses of one register that has one address are the same. -/
theorem ioRegOf_inj (a b : Word) (h : ioRegOf b = ioRegOf a) (h1 : ∀ r, ioRegOf a ≠ .apu r) (h2 : ioRegOf a ≠ .wave)
    (h3 : ioRegOf a ≠ .platform) : b = a := by
  apply BitVec.eq_of_toNat_eq
  rcases ioRegOf_addr a with ha | ⟨r, ha⟩ | ⟨ha, _⟩ | ha
  · rcases ioRegOf_addr b with hb | ⟨r, hb⟩ | ⟨hb, _⟩ | hb
    · rw [ha, hb, h]
    · exact absurd (h.symm.trans hb) (h1 r)
    · exact absurd (h.symm.trans hb) h2
    · exact absurd (h.symm.trans hb) h3
  · exact absurd ha (h1 r)
  · exact absurd ha h2
  · exact absurd ha h3

/-- The registers of the PPU that a write to LCDC leaves alone (R346). -/
theorem writeLcdc_others (p : Ppu) (v : Byte) :
    (p.writeLcdc v).scy = p.scy ∧ (p.writeLcdc v).scx = p.scx ∧ (p.writeLcdc v).lyc = p.lyc
      ∧ (p.writeLcdc v).bgp = p.bgp ∧ (p.writeLcdc v).obp0 = p.obp0 ∧ (p.writeLcdc v).obp1 = p.obp1
      ∧ (p.writeLcdc v).wy = p.wy ∧ (p.writeLcdc v).wx = p.wx ∧ (p.writeLcdc v).statSel = p.statSel := by
  unfold Ppu.writeLcdc
  split <;> exact ⟨rfl, rfl, rfl, rfl, rfl, rfl, rfl, rfl, rfl⟩

/-- An I/O read reads the I/O fields of the state and no other. -/
theorem ioRead_congr (s t : State) (b : Word) (h1 : t.intr = s.intr) (h2 : t.timer = s.timer) (h3 : t.ppu = s.ppu)
    (h4 : t.apu = s.apu) (h5 : t.waveRam = s.waveRam) (h6 : t.freeIdx = s.freeIdx) (h7 : t.params = s.params)
    (h8 : t.own = s.own) :
    ioRead t b = ioRead s b := by
  unfold ioRead
  rw [h1, h2, h3, h4, h5, h6, h7, h8]

/-- A read outside the I/O registers does not look at the devices but the MBC. -/
theorem mapRead_notIo (s t : State) (b : Word) (h : regionOf b ≠ .io) (h1 : t.intr.ie = s.intr.ie) (h2 : t.mbc = s.mbc)
    (h3 : t.ram = s.ram) (h4 : t.extRam = s.extRam) (h5 : t.rom = s.rom) (h6 : t.bootRom = s.bootRom)
    (h7 : t.bootOverlay = s.bootOverlay ∨ 0x100 ≤ b.toNat) (h8 : t.params = s.params) : mapRead t b = mapRead s b := by
  unfold mapRead
  cases hr : regionOf b
  case io => exact absurd hr h
  case romFixed =>
    rcases h7 with h7 | h7
    · rw [h7, h6, h5]
    · have : ¬ b.toNat < 0x100 := by omega
      simp [this, h5]
  all_goals simp [h1, h2, h3, h4, h5, h8]

/-- Does a write to an I/O register leave what is read outside the I/O registers as it was? -/
theorem ioWrite_notIo (s : State) (a b : Word) (v : Byte) (h : ioTouches a b = false)
    (hb : regionOf b ≠ .io) : mapRead (ioWrite s a v) b = mapRead s b := by
  unfold ioTouches at h
  cases hr : ioRegOf a
  case bootOff =>
    rw [hr] at h
    have hb' : 0x100 ≤ b.toNat := by
      simp at h
      exact h.1
    unfold ioWrite
    rw [hr]
    exact mapRead_notIo _ _ b hb rfl rfl rfl rfl rfl rfl (.inr hb') rfl
  all_goals (unfold ioWrite; rw [hr])
  all_goals exact mapRead_notIo _ _ b hb rfl rfl rfl rfl rfl rfl (.inl rfl) rfl

/-- What a write to an I/O register leaves readable at another register. -/
theorem ioRead_ioWrite (s : State) (a b : Word) (v : Byte) (hb : regionOf b = .io)
    (h : ioTouches a b = false) : ioRead (ioWrite s a v) b = ioRead s b := by
  have hinj := ioRegOf_inj a b
  obtain ⟨w1, w2, w3, w4, w5, w6, w7, w8, w9⟩ := writeLcdc_others s.ppu v
  have h41 : ioRegOf b = .stat → b = 0xFF41 := fun e => by
    rcases ioRegOf_addr b with hb | ⟨r, hb⟩ | ⟨hb, _⟩ | hb
    · rw [e] at hb; exact BitVec.eq_of_toNat_eq hb
    all_goals (rw [hb] at e; cases e)
  have h44 : ioRegOf b = .ly → b = 0xFF44 := fun e => by
    rcases ioRegOf_addr b with hb | ⟨r, hb⟩ | ⟨hb, _⟩ | hb
    · rw [e] at hb; exact BitVec.eq_of_toNat_eq hb
    all_goals (rw [hb] at e; cases e)
  unfold ioTouches at h
  unfold ioWrite
  cases hr : ioRegOf a <;> rw [hr] at h hinj <;> unfold ioRead <;> cases hq : ioRegOf b <;> first
    | rfl
    | (exfalso; have e := hinj hq; simp at e; simp [e] at h; done)
    | (exfalso; simp [h41 hq] at h)
    | (exfalso; simp [h44 hq] at h)
    | (exfalso; simp [hb, ownedByApu, hq] at h; done)
    | (exfalso; simp [hb, ownedByPlatform, hq] at h; done)
    | assumption

/-- What a write to an I/O register leaves readable as before. -/
theorem mapRead_ioWrite (s : State) (a b : Word) (v : Byte) (h : ioTouches a b = false) :
    mapRead (ioWrite s a v) b = mapRead s b := by
  by_cases hb : regionOf b = .io
  · have e : ∀ t : State, mapRead t b = ioRead t b := fun t => by unfold mapRead; rw [hb]
    rw [e, e]
    exact ioRead_ioWrite s a b v hb h
  · exact ioWrite_notIo s a b v h hb

/-- THE FRAME OF A STORE: a byte that `mapTouches` does not name reads as before (R53 to R58). -/
theorem mapRead_mapWrite_frame (s : State) (a b : Word) (v : Byte) (h : mapTouches a b = false) :
    mapRead (mapWrite s a v) b = mapRead s b := by
  have plainCase : ∀ k, ramKey a = some k → ramKey b ≠ some k → mapRead (mapWrite s a v) b = mapRead s b := by
    intro k hk hne
    rw [mapWrite_ramKey s a v k hk]
    exact mapRead_storeRam s k v b hne
  have sameKey : ∀ k, ramKey a = some k → ramKey b = some k → k < 0xC000 ∨ 0xE000 ≤ k → b = a := by
    intro k hk hb hr
    have ka : a.toNat = k := by
      unfold ramKey at hk
      cases hx : regionOf a <;> rw [hx] at hk <;> cases hk <;> first
        | rfl
        | (have := (regionOf_echo a).mp hx; rw [echoOf_toNat a hx] at hr ⊢; omega)
    have kb : b.toNat = k := by
      unfold ramKey at hb
      cases hx : regionOf b <;> rw [hx] at hb <;> cases hb <;> first
        | rfl
        | (have := (regionOf_echo b).mp hx; rw [echoOf_toNat b hx] at hr ⊢; omega)
    exact BitVec.eq_of_toNat_eq (kb.trans ka.symm)
  have direct : ∀ k, ramKey a = some k → k < 0xC000 ∨ 0xE000 ≤ k → (decide (b = a)) = false →
      mapRead (mapWrite s a v) b = mapRead s b := by
    intro k hk hr hd
    refine plainCase k hk (fun hb => ?_)
    exact (of_decide_eq_false hd) (sameKey k hk hb hr)
  have work : (regionOf a = .wram ∨ regionOf a = .echo) →
      ((regionOf b = .wram || regionOf b = .echo) && workRamOf b = workRamOf a) = false →
      mapRead (mapWrite s a v) b = mapRead s b := by
    intro hr hd
    have ka : ramKey a = some (workRamOf a).toNat := by
      unfold ramKey workRamOf
      rcases hr with hr | hr <;> rw [hr] <;> rfl
    refine plainCase _ ka (fun hb => ?_)
    have rng := ramKey_range b _ hb
    have ra : 0xC000 ≤ (workRamOf a).toNat ∧ (workRamOf a).toNat < 0xE000 := by
      unfold workRamOf
      rcases hr with hr | hr <;> rw [hr]
      · exact (regionOf_wram a).mp hr
      · have := (regionOf_echo a).mp hr
        simp only [if_true]
        rw [echoOf_toNat a hr]
        omega
    unfold ramKey at hb
    cases hx : regionOf b <;> rw [hx] at hb hd <;> first | (simp at hb; done) | replace hb := Option.some.inj hb
    · have := (regionOf_vram b).mp hx; omega
    · have e' : workRamOf b = b := by unfold workRamOf; rw [hx]; rfl
      simp only [e'] at hd
      simp at hd
      exact hd (BitVec.eq_of_toNat_eq hb)
    · have e' : workRamOf b = echoOf b := by unfold workRamOf; rw [hx]; rfl
      simp only [e'] at hd
      simp at hd
      exact hd (BitVec.eq_of_toNat_eq hb)
    · have := (regionOf_oam b).mp hx; omega
    · have := (regionOf_hram b).mp hx; omega
  unfold mapTouches at h
  cases hr : regionOf a <;> rw [hr] at h <;> dsimp only at h
  case romFixed =>
    simp at h
    unfold mapWrite; rw [hr]
    exact mapRead_mbc s _ b h.1 h.2
  case romBanked =>
    simp at h
    unfold mapWrite; rw [hr]
    exact mapRead_mbc s _ b h.1 h.2
  case vram =>
    have := (regionOf_vram a).mp hr
    exact direct a.toNat (by unfold ramKey; rw [hr]) (by omega) h
  case oam =>
    have := (regionOf_oam a).mp hr
    exact direct a.toNat (by unfold ramKey; rw [hr]) (by omega) h
  case hram =>
    have := (regionOf_hram a).mp hr
    exact direct a.toNat (by unfold ramKey; rw [hr]) (by omega) h
  case wram => exact work (.inl hr) h
  case echo => exact work (.inr hr) h
  case unusable => unfold mapWrite; rw [hr]
  case io =>
    have e : mapWrite s a v = ioWrite s a v := by unfold mapWrite; rw [hr]
    rw [e]
    exact mapRead_ioWrite s a b v h
  case ie =>
    have e : mapWrite s a v = { s with intr := { s.intr with ie := v } } := by unfold mapWrite; rw [hr]
    rw [e]
    have hne : b ≠ a := of_decide_eq_false h
    unfold mapRead
    cases hx : regionOf b
    case ie =>
      exfalso
      have h1 := (regionOf_ie a).mp hr
      have h2 := (regionOf_ie b).mp hx
      exact hne (BitVec.eq_of_toNat_eq (by omega))
    case io =>
      show ioRead _ b = ioRead _ b
      unfold ioRead
      cases ioRegOf b <;> rfl
    all_goals rfl
  case extRam =>
    have hne : b ≠ a := of_decide_eq_false h
    unfold mapWrite
    rw [hr]
    dsimp only
    split
    · unfold mapRead
      cases hx : regionOf b
      case extRam =>
        have h1 := (regionOf_extRam a).mp hr
        have h2 := (regionOf_extRam b).mp hx
        have : b.toNat ≠ a.toNat := fun e => hne (BitVec.eq_of_toNat_eq e)
        dsimp only
        rw [Memory.read_write_other]
        unfold extRamOffset
        omega
      case io =>
        show ioRead _ b = ioRead _ b
        unfold ioRead
        cases ioRegOf b <;> rfl
      all_goals rfl
    · rfl

/-- A read in the I/O window is the read of the register there (R58). -/
theorem mapRead_io (s : State) (a : Word) (h : regionOf a = .io) : mapRead s a = ioRead s a := by
  unfold mapRead
  rw [h]

/-- A write in the I/O window is the write of the register there (R58). -/
theorem mapWrite_io (s : State) (a : Word) (v : Byte) (h : regionOf a = .io) : mapWrite s a v = ioWrite s a v := by
  unfold mapWrite
  rw [h]

/-! The bus itself: the address map, or the BUS given in its place (spec/00_scope.md R7; log 37). -/

/-- With the spec's BUS a read goes by the address map. -/
theorem busRead_spec (s : State) (a : Word) (h : s.params.bus = .spec) : busRead s a = mapRead s a := by
  unfold busRead
  rw [h]

/-- With the spec's BUS a write goes by the address map. -/
theorem busWrite_spec (s : State) (a : Word) (v : Byte) (h : s.params.bus = .spec) : busWrite s a v = mapWrite s a v := by
  unfold busWrite
  rw [h]

/-- With a given BUS a read is its own. -/
theorem busRead_given (s : State) (a : Word) (k : Nat) (h : s.params.bus = .given k) : busRead s a = givenRead k s a := by
  unfold busRead
  rw [h]

/-- With a given BUS a write is its own. -/
theorem busWrite_given (s : State) (a : Word) (v : Byte) (k : Nat) (h : s.params.bus = .given k) :
    busWrite s a v = givenWrite k s a v := by
  unfold busWrite
  rw [h]

/-- The engine's own registers on the bus (92 D4). -/
theorem engineOwned_iff (a : Word) : engineOwned a = true ↔ a = 0xFFFF ∨ a = 0xFF0F := by
  unfold engineOwned
  rw [Bool.or_eq_true, decide_eq_true_iff, decide_eq_true_iff]

/-- EVERYTHING A GIVEN BUS CAN DO WITH A WRITE: one of the engine's two registers, or its own platform. -/
theorem givenWrite_cases (k : Nat) (s : State) (a : Word) (v : Byte) :
    (a = 0xFFFF ∧ givenWrite k s a v = { s with intr := { s.intr with ie := v } }) ∨
    (a = 0xFF0F ∧ givenWrite k s a v = { s with intr := { s.intr with ifl := v.extractLsb' 0 5 } }) ∨
    (engineOwned a = false ∧ givenWrite k s a v = s.setPlatform (Config.busWrite k s.platform a v)) := by
  unfold givenWrite
  by_cases h1 : a = 0xFFFF
  · exact .inl ⟨h1, if_pos h1⟩
  · by_cases h2 : a = 0xFF0F
    · exact .inr (.inl ⟨h2, by rw [if_neg h1, if_pos h2]⟩)
    · refine .inr (.inr ⟨?_, by rw [if_neg h1, if_neg h2]⟩)
      rw [Bool.eq_false_iff, ne_eq, engineOwned_iff]
      exact fun e => e.elim h1 h2

@[simp] theorem busWrite_regs (s : State) (a : Word) (v : Byte) : (busWrite s a v).regs = s.regs := by
  unfold busWrite
  split
  · exact mapWrite_regs s a v
  · unfold givenWrite; repeat' split
    all_goals rfl

@[simp] theorem busWrite_halted (s : State) (a : Word) (v : Byte) : (busWrite s a v).halted = s.halted := by
  unfold busWrite
  split
  · exact mapWrite_halted s a v
  · unfold givenWrite; repeat' split
    all_goals rfl

@[simp] theorem busWrite_stopped (s : State) (a : Word) (v : Byte) : (busWrite s a v).stopped = s.stopped := by
  unfold busWrite
  split
  · exact mapWrite_stopped s a v
  · unfold givenWrite; repeat' split
    all_goals rfl

@[simp] theorem busWrite_haltBugLatch (s : State) (a : Word) (v : Byte) : (busWrite s a v).haltBugLatch = s.haltBugLatch := by
  unfold busWrite
  split
  · exact mapWrite_haltBugLatch s a v
  · unfold givenWrite; repeat' split
    all_goals rfl

@[simp] theorem busWrite_fault (s : State) (a : Word) (v : Byte) : (busWrite s a v).fault = s.fault := by
  unfold busWrite
  split
  · exact mapWrite_fault s a v
  · unfold givenWrite; repeat' split
    all_goals rfl

@[simp] theorem busWrite_ctl (s : State) (a : Word) (v : Byte) : (busWrite s a v).ctl = s.ctl := by
  unfold busWrite
  split
  · exact mapWrite_ctl s a v
  · unfold givenWrite; repeat' split
    all_goals rfl

@[simp] theorem busWrite_rom (s : State) (a : Word) (v : Byte) : (busWrite s a v).rom = s.rom := by
  unfold busWrite
  split
  · exact mapWrite_rom s a v
  · unfold givenWrite; repeat' split
    all_goals rfl

@[simp] theorem busWrite_bootRom (s : State) (a : Word) (v : Byte) : (busWrite s a v).bootRom = s.bootRom := by
  unfold busWrite
  split
  · exact mapWrite_bootRom s a v
  · unfold givenWrite; repeat' split
    all_goals rfl

@[simp] theorem busWrite_params (s : State) (a : Word) (v : Byte) : (busWrite s a v).params = s.params := by
  unfold busWrite
  split
  · exact mapWrite_params s a v
  · unfold givenWrite; repeat' split
    all_goals rfl

@[simp] theorem busWrite_requests (s : State) (a : Word) (v : Byte) : (busWrite s a v).requests = s.requests := by
  unfold busWrite
  split
  · exact mapWrite_requests s a v
  · unfold givenWrite; repeat' split
    all_goals rfl

@[simp] theorem busWrite_ime (s : State) (a : Word) (v : Byte) : (busWrite s a v).intr.ime = s.intr.ime := by
  unfold busWrite
  split
  · exact mapWrite_ime s a v
  · unfold givenWrite; repeat' split
    all_goals rfl

@[simp] theorem busWrite_eiPending (s : State) (a : Word) (v : Byte) : (busWrite s a v).intr.eiPending = s.intr.eiPending := by
  unfold busWrite
  split
  · exact mapWrite_eiPending s a v
  · unfold givenWrite; repeat' split
    all_goals rfl

/-! A read does not look at the register file. -/

@[simp] theorem busRead_mapRegs (s : State) (g : Regs → Regs) (a : Word) : busRead (s.mapRegs g) a = busRead s a := rfl

@[simp] theorem busRead_setR8 (s : State) (r : R8) (v : Byte) (a : Word) : busRead (s.setR8 r v) a = busRead s a := rfl

@[simp] theorem busRead_setPc (s : State) (v : Word) (a : Word) : busRead (s.setPc v) a = busRead s a := rfl

@[simp] theorem busRead_setSp (s : State) (v : Word) (a : Word) : busRead (s.setSp v) a = busRead s a := rfl

@[simp] theorem busRead_setAcc (s : State) (v : Byte) (a : Word) : busRead (s.setAcc v) a = busRead s a := rfl

@[simp] theorem busRead_setF (s : State) (v : Byte) (a : Word) : busRead (s.setF v) a = busRead s a := rfl

@[simp] theorem busRead_setHl (s : State) (v : Word) (a : Word) : busRead (s.setHl v) a = busRead s a := rfl

@[simp] theorem busRead_setFlags (s : State) (z n h c : Bool) (a : Word) : busRead (s.setFlags z n h c) a = busRead s a := rfl

@[simp] theorem busRead_setR16 (s : State) (p : R16) (v a : Word) : busRead (s.setR16 p v) a = busRead s a := by
  cases p <;> rfl

@[simp] theorem busRead_setQ16 (s : State) (p : Q16) (v a : Word) : busRead (s.setQ16 p v) a = busRead s a := by
  cases p <;> rfl

/-- A write does not look at the register file. -/
theorem busWrite_mapRegs (s : State) (g : Regs → Regs) (a : Word) (v : Byte) :
    busWrite (s.mapRegs g) a v = (busWrite s a v).mapRegs g := by
  cases h : s.params.bus with
  | spec => rw [busWrite_spec _ _ _ h, busWrite_spec (s.mapRegs g) _ _ h, mapWrite_mapRegs]
  | given k =>
    rw [busWrite_given _ _ _ k h, busWrite_given (s.mapRegs g) _ _ k h]
    unfold givenWrite
    repeat' split
    all_goals rfl

/-- A write keeps the canonical form of RAM. -/
theorem busWrite_ram_wf (s : State) (a : Word) (v : Byte) (h : s.ram.wf = true) : (busWrite s a v).ram.wf = true := by
  unfold busWrite
  split
  · exact mapWrite_ram_wf s a v h
  · unfold givenWrite; repeat' split
    all_goals exact h

/-- A write keeps the canonical form of wave RAM. -/
theorem busWrite_waveRam_wf (s : State) (a : Word) (v : Byte) (h : s.waveRam.wf = true) :
    (busWrite s a v).waveRam.wf = true := by
  unfold busWrite
  split
  · exact mapWrite_waveRam_wf s a v h
  · unfold givenWrite; repeat' split
    all_goals exact h

/-- A write keeps the canonical form of external RAM. -/
theorem busWrite_extRam_wf (s : State) (a : Word) (v : Byte) (h : s.extRam.wf = true) :
    (busWrite s a v).extRam.wf = true := by
  unfold busWrite
  split
  · exact mapWrite_extRam_wf s a v h
  · unfold givenWrite; repeat' split
    all_goals exact h

/-- Read after write at a RAM address of the spec's BUS (R59, R67). -/
theorem busRead_busWrite_same (s : State) (a : Word) (v : Byte) (hb : s.params.bus = .spec) (hw : s.ram.wf = true)
    (h : ramKey a ≠ none) : busRead (busWrite s a v) a = v := by
  rw [busRead_spec _ _ (by simpa using hb), busWrite_spec _ _ _ hb]
  exact mapRead_mapWrite_same s a v hw h

/-- A read by a given BUS looks at IE, IF and the platform alone. -/
theorem givenRead_congr (k : Nat) (s t : State) (b : Word) (h1 : t.intr = s.intr) (h2 : t.platform = s.platform) :
    givenRead k t b = givenRead k s b := by
  unfold givenRead
  rw [h1, h2]

/-- The frame of a store on a given BUS: IE and IF are touched by their own stores only, and no other store touches them. -/
theorem givenRead_givenWrite (k : Nat) (s : State) (a b : Word) (v : Byte) (h : touches (.given k) a b = false) :
    givenRead k (givenWrite k s a v) b = givenRead k s b := by
  unfold touches at h
  rcases givenWrite_cases k s a v with ⟨ha, e⟩ | ⟨ha, e⟩ | ⟨ha, e⟩ <;> rw [e]
  · have hb : b ≠ 0xFFFF := by simpa [ha, engineOwned] using h
    unfold givenRead
    rw [if_neg hb, if_neg hb]
    rfl
  · have hb : b ≠ 0xFF0F := by simpa [ha, engineOwned] using h
    unfold givenRead
    rw [if_neg hb, if_neg hb]
    rfl
  · have hb : b = 0xFFFF ∨ b = 0xFF0F := (engineOwned_iff b).mp (by simpa [ha] using h)
    unfold givenRead
    rcases hb with hb | hb
    · rw [if_pos hb, if_pos hb]; rfl
    · subst hb
      rfl

/-- THE FRAME OF A STORE: a byte that `touches` does not name reads as before (R53 to R58; 00 R7). -/
theorem busRead_busWrite_frame (s : State) (a b : Word) (v : Byte) (h : touches s.params.bus a b = false) :
    busRead (busWrite s a v) b = busRead s b := by
  cases hb : s.params.bus with
  | spec =>
    rw [hb] at h
    rw [busRead_spec _ _ (by simpa using hb), busRead_spec _ _ hb, busWrite_spec _ _ _ hb]
    exact mapRead_mapWrite_frame s a b v h
  | given k =>
    rw [hb] at h
    rw [busRead_given _ _ k (by simpa using hb), busRead_given _ _ k hb, busWrite_given _ _ _ k hb]
    exact givenRead_givenWrite k s a b v h

/-- A read in the I/O window of the spec's BUS is the read of the register there (R58). -/
theorem busRead_io (s : State) (a : Word) (hb : s.params.bus = .spec) (h : regionOf a = .io) : busRead s a = ioRead s a := by
  rw [busRead_spec _ _ hb, mapRead_io s a h]

/-- A write in the I/O window of the spec's BUS is the write of the register there (R58). -/
theorem busWrite_io (s : State) (a : Word) (v : Byte) (hb : s.params.bus = .spec) (h : regionOf a = .io) :
    busWrite s a v = ioWrite s a v := by
  rw [busWrite_spec _ _ _ hb, mapWrite_io s a v h]

/-- What the reset of DIV by STOP leaves readable as before (spec/46_cpu_control.md R263). -/
theorem busRead_resetDiv (s : State) (b : Word) (h : divTouches s.params.bus b = false) :
    busRead (s.mapTimer Timer.resetDiv) b = busRead s b := by
  cases hb : s.params.bus with
  | spec =>
    rw [hb] at h
    have hne : b ≠ 0xFF04 := of_decide_eq_false h
    rw [busRead_spec _ _ hb, busRead_spec (s.mapTimer Timer.resetDiv) _ hb]
    unfold mapRead
    cases hr : regionOf b
    case io =>
      show ioRead _ b = ioRead _ b
      unfold ioRead
      cases hq : ioRegOf b
      case div =>
        rcases ioRegOf_addr b with he | ⟨r, he⟩ | ⟨he, _⟩ | he
        · rw [hq] at he
          exact absurd (BitVec.eq_of_toNat_eq he) hne
        all_goals (rw [he] at hq; cases hq)
      all_goals rfl
    all_goals rfl
  | given k =>
    rw [hb] at h
    rw [busRead_given _ _ k hb, busRead_given (s.mapTimer Timer.resetDiv) _ k hb]
    have hb' : b = 0xFFFF ∨ b = 0xFF0F := (engineOwned_iff b).mp (by simpa [divTouches] using h)
    rcases hb' with rfl | rfl <;> rfl

end Sys2Proof.Machine
end

