-- ==== Sys2Proof/Laws/Decode.lean ====
section
/-! SUPPORT. What decoding gives, by the first byte's length. -/

namespace Sys2Proof

/-- Decoding when the list holds the whole instruction (spec/30_encoding.md R86). -/
theorem decode_cons (op : Byte) (rest : List Byte) (h : lengthOfOpcode op ≤ rest.length + 1) :
    decode (op :: rest) = .ok (decodeBytes op (rest.getD 0 0) (rest.getD 1 0), rest.drop (lengthOfOpcode op - 1)) :=
  if_neg (Nat.not_lt.mpr h)

/-- An opcode with no immediate. -/
theorem decode_one (op : Byte) (rest : List Byte) (h : lengthOfOpcode op = 1) :
    decode (op :: rest) = .ok (decodeBytes op (rest.getD 0 0) (rest.getD 1 0), rest) := by
  rw [decode_cons op rest (by omega), h]
  rfl

/-- An opcode with one byte after it. -/
theorem decode_two (op b1 : Byte) (rest : List Byte) (h : lengthOfOpcode op = 2) :
    decode (op :: b1 :: rest) = .ok (decodeBytes op b1 (rest.getD 0 0), rest) := by
  rw [decode_cons op (b1 :: rest) (by rw [h, List.length_cons]; omega), h]
  rfl

/-- An opcode with two bytes after it. -/
theorem decode_three (op b1 b2 : Byte) (rest : List Byte) (h : lengthOfOpcode op = 3) :
    decode (op :: b1 :: b2 :: rest) = .ok (decodeBytes op b1 b2, rest) := by
  rw [decode_cons op (b1 :: b2 :: rest) (by rw [h, List.length_cons, List.length_cons]; omega), h]
  rfl

/-- The prefix and the byte after it (R89). -/
theorem decode_cb (o : Byte) (rest : List Byte) : decode (cbPrefix :: o :: rest) = .ok (decodeCb o, rest) :=
  decode_two cbPrefix o rest rfl

end Sys2Proof
end

