-- ==== Sys2Proof/Laws/Ops.lean ====
section
/-! SUPPORT. What each shared operation does, said once. -/

namespace Sys2Proof.Machine

/-- The state with another register file. -/
def State.withRegs (s : State) (r : Regs) : State := { s with regs := r }

@[simp] theorem busRead_withRegs (s : State) (r : Regs) (b : Word) : busRead (s.withRegs r) b = busRead s b := rfl

/-- Push16 (spec/41_load16.md R131) as two stores and SP - 2. -/
theorem push16_eq (s : State) (v : Word) :
    push16 s v = (busWrite (busWrite s (s.sp - 1) (hiByte v)) (s.sp - 2) (loByte v)).setSp (s.sp - 2) := by
  unfold push16 State.setSp
  simp only [busWrite_mapRegs]
  rfl

/-- Push16 moves SP down by two. -/
@[simp] theorem push16_sp (s : State) (v : Word) : (push16 s v).sp = s.sp - 2 := by rw [push16_eq]; rfl

/-- Push16 leaves the other registers alone. -/
theorem push16_regs (s : State) (v : Word) : (push16 s v).regs = { s.regs with sp := s.sp - 2 } := by
  rw [push16_eq]
  show { (busWrite (busWrite s _ _) _ _).regs with sp := s.sp - 2 } = _
  simp

/-- A byte that neither store of a push touches reads as before. -/
theorem push16_frame (s : State) (v b : Word) (h1 : touches s.params.bus (s.sp - 1) b = false)
    (h2 : touches s.params.bus (s.sp - 2) b = false) :
    busRead (push16 s v) b = busRead s b := by
  rw [push16_eq]
  exact (busRead_busWrite_frame _ _ _ _ (by simpa using h2)).trans (busRead_busWrite_frame _ _ _ _ h1)

/-- RET's effect (spec/45_control_transfer.md R247): SP + 2, and pc from the two bytes at SP. -/
theorem returnTo_regs (s : State) : (returnTo s).regs = { s.regs with sp := s.sp + 2, pc := popWord s } := rfl

/-- Dispatch (spec/60_exceptions.md R293): IME and `ei_pending` cleared, pc at the vector, SP down by two. -/
theorem takeInterrupt_regs (s : State) :
    (takeInterrupt s).regs = { s.regs with sp := s.sp - 2, pc := vectorOf (highest s) } := by
  unfold takeInterrupt State.setPc
  dsimp only
  rw [State.mapRegs_regs, push16_regs]
  rfl

/-- Dispatch clears IME. -/
theorem takeInterrupt_ime (s : State) : (takeInterrupt s).intr.ime = false := by
  unfold takeInterrupt
  simp [push16_eq]

/-- Dispatch drops a pending EI. -/
theorem takeInterrupt_eiPending (s : State) : (takeInterrupt s).intr.eiPending = false := by
  unfold takeInterrupt
  simp [push16_eq]

/-- The registers of an ALU step: A by its result, but for CP, and F whole (spec/42_alu8.md R140). -/
theorem aluStep_regs (op : AluOp) (v : Byte) (s : State) :
    aluStep op v s = s.withRegs
      { s.regs with
        a := if op = .cp then s.acc else (op.eval s.acc v s.flagC).res
        f := (op.eval s.acc v s.flagC).f } := by
  have hf : ∀ o : Alu, maskF o.f = o.f := fun o => maskF_packF o.z o.n o.h o.c
  cases op <;> simp [aluStep, State.setF, State.setAcc, State.mapRegs, State.withRegs, hf, State.acc]

/-- The F byte of an ALU result is in F's form already (spec/10_state.md R25). -/
theorem maskF_alu (o : Alu) : maskF o.f = o.f := maskF_packF o.z o.n o.h o.c

/-- Writing the four flags writes F alone, with its low nibble 0 (R25). -/
theorem setFlags_eq (s : State) (z n h c : Bool) :
    s.setFlags z n h c = { s with regs := { s.regs with f := packF z n h c } } := by
  show ({ s with regs := { s.regs with f := maskF _ } } : State) = _
  rw [maskF_packF]

/-- The rotates and shifts of R205 to R220 on the byte at a location, as one equation. -/
theorem rotLoc_eq (op : Rot) (l : Loc8) (s : State) :
    rotLoc op l s = (s.writeLoc l (op.result (s.readLoc l) s.flagC)).setFlags
      (op.result (s.readLoc l) s.flagC = 0) false false (op.carry (s.readLoc l)) := rfl

end Sys2Proof.Machine
end

