-- ==== Sys2Proof/Laws/Devices.lean ====
section
/-! SUPPORT. What the devices and PLATFORM_TICK can do, said once. -/

namespace Sys2Proof.Machine

/-- `n` increments change TIMA only, and set no request bit but IF[2] (spec/60_exceptions.md R311). -/
theorem timaSteps_spec (n : Nat) (t : Timer) (ifl : BitVec 5) :
    ∃ (x : Byte) (y : BitVec 5), timaSteps n t ifl = ({ t with tima := x }, y) ∧ (y = ifl ∨ y = ifl ||| 0b00100) := by
  induction n generalizing t ifl with
  | zero => exact ⟨t.tima, ifl, rfl, .inl rfl⟩
  | succ k ih =>
    obtain ⟨x, y, he, hy⟩ := ih (timaStep t ifl).1 (timaStep t ifl).2
    refine ⟨x, y, ?_, ?_⟩
    · show timaSteps k _ _ = _
      rw [he]
      unfold timaStep
      split <;> rfl
    · unfold timaStep at hy
      split at hy
      · have idem : (ifl ||| 0b00100) ||| 0b00100 = ifl ||| 0b00100 := by rw [BitVec.or_assoc, BitVec.or_self]
        rcases hy with rfl | rfl
        · exact .inr rfl
        · exact .inr idem
      · exact hy

/-- `timer_tick` (R311): the divider advances, TIMA and `timer_sub` may change, and no request bit but IF[2] is set. -/
theorem timerTick_spec (t : Timer) (ifl : BitVec 5) (c : Nat) :
    ∃ (x : Byte) (n : Nat) (y : BitVec 5),
      timerTick t ifl c = ({ t with divCounter := t.divCounter + BitVec.ofNat 16 c, tima := x, sub := n }, y) ∧
        (y = ifl ∨ y = ifl ||| 0b00100) ∧ (n = t.sub ∨ n < 256) := by
  unfold timerTick
  split
  · unfold timerAdvance
    generalize hu : ({ t with divCounter := t.divCounter + BitVec.ofNat 16 c } : Timer) = u
    obtain ⟨x, y, he, hy⟩ := timaSteps_spec ((u.sub + c) / u.period) { u with sub := (u.sub + c) % u.period } ifl
    refine ⟨x, (u.sub + c) % u.period, y, ?_, hy, .inr ?_⟩
    · rw [he, ← hu]
    · have : 0 < u.period ∧ u.period ≤ 256 := by
        unfold Timer.period timerPeriod
        split <;> omega
      have := Nat.mod_lt (u.sub + c) this.1
      omega
  · exact ⟨t.tima, t.sub, ifl, rfl, .inl rfl, .inl rfl⟩

/-- A bit already set stays set when the PPU makes its requests (R299). -/
theorem ppuRequests_keeps (p q : Ppu) (ifl : BitVec 5) (k : Nat) (h : ifl.getLsbD k = true) :
    (ppuRequests p q ifl).getLsbD k = true := by
  unfold ppuRequests requestStat
  dsimp only
  repeat' split
  all_goals simp [h]

/-- The dots change LY and the dot counter only, keep them in range, and clear no request bit (R342). -/
theorem ppuDots_spec (n : Nat) (p : Ppu) (ifl : BitVec 5) :
    ∃ (y : Byte) (d : Nat) (f : BitVec 5),
      ppuDots n p ifl = ({ p with ly := y, dot := d }, f) ∧
        (∀ k, ifl.getLsbD k = true → f.getLsbD k = true) ∧
        (p.ly.toNat < 154 → p.dot < 456 → y.toNat < 154 ∧ d < 456) := by
  induction n generalizing p ifl with
  | zero => exact ⟨p.ly, p.dot, ifl, rfl, fun _ h => h, fun h1 h2 => ⟨h1, h2⟩⟩
  | succ k ih =>
    obtain ⟨y, d, f, he, hk, hr⟩ := ih (ppuDot p ifl).1 (ppuDot p ifl).2
    refine ⟨y, d, f, ?_, fun j hj => hk j (ppuRequests_keeps _ _ _ _ hj), ?_⟩
    · show ppuDots k _ _ = _
      rw [he]
      unfold ppuDot Ppu.advanceDot
      dsimp only
      split <;> rfl
    · intro h1 h2
      refine hr ?_ ?_ <;> (unfold ppuDot Ppu.advanceDot; dsimp only; split)
      · show (BitVec.ofNat 8 _).toNat < 154
        rw [BitVec.toNat_ofNat]
        omega
      · exact h1
      · show 0 < 456
        omega
      · show p.dot + 1 < 456
        omega

/-- `ppu_tick` (R342): LY and the dot counter, in range, and no request bit cleared. -/
theorem ppuTick_spec (p : Ppu) (ifl : BitVec 5) (n : Nat) :
    ∃ (y : Byte) (d : Nat) (f : BitVec 5),
      ppuTick p ifl n = ({ p with ly := y, dot := d }, f) ∧
        (∀ k, ifl.getLsbD k = true → f.getLsbD k = true) ∧
        (p.ly.toNat < 154 → p.dot < 456 → y.toNat < 154 ∧ d < 456) ∧
        (p.on = false → y = p.ly ∧ d = p.dot) := by
  unfold ppuTick
  split
  · next h =>
    obtain ⟨y, d, f, h1, h2, h3⟩ := ppuDots_spec n p ifl
    exact ⟨y, d, f, h1, h2, h3, fun e => by rw [h] at e; cases e⟩
  · exact ⟨p.ly, p.dot, ifl, rfl, fun _ h => h, fun h1 h2 => ⟨h1, h2⟩, fun _ => ⟨rfl, rfl⟩⟩

/-- The platform's requests clear no bit (R305). -/
theorem applyRequests_keeps (rs : List PlatformRequest) (ifl : BitVec 5) (k : Nat) (h : ifl.getLsbD k = true) :
    (applyRequests rs ifl).getLsbD k = true := by
  cases rs with
  | nil => exact h
  | cons r rest => simp [applyRequests, h]

/-- With the spec's PLATFORM_TICK, the devices after it (R298). -/
theorem deviceTick_spec (s : State) (c : Nat) (h : s.params.tick = .spec) : deviceTick s c = specTick s c := by
  unfold deviceTick
  rw [h]

/-- A given PLATFORM_TICK clears no request bit, and neither does the spec's (R299). -/
theorem deviceTick_keeps (s : State) (c k : Nat) (h : s.intr.ifl.getLsbD k = true) : (deviceTick s c).2.getLsbD k = true := by
  unfold deviceTick
  split
  · unfold specTick
    dsimp only
    obtain ⟨_, _, y, he, hy, _⟩ := timerTick_spec s.timer s.intr.ifl c
    obtain ⟨_, _, f, hp, hk, _⟩ := ppuTick_spec s.ppu (timerTick s.timer s.intr.ifl c).2 (4 * c)
    rw [hp]
    refine hk k ?_
    rw [he]
    rcases hy with rfl | rfl
    · exact h
    · simp [h]
  · unfold givenTick
    simp [h]

/-- The fields PLATFORM_TICK leaves alone (R298), as one equation: it writes the devices, IF, the requests, the cycle count and
the free-read counter. -/
theorem platformTick_eq (s : State) (c : Nat) :
    platformTick s c =
      { s.setPlatform (deviceTick s c).1 with
        intr := { s.intr with ifl := (platformTick s c).intr.ifl }
        requests := s.requests.tail
        ctl := { s.ctl with totalCycles := s.ctl.totalCycles + c }
        freeIdx := s.freeIdx + 1 } := rfl

/-- The devices after the spec's PLATFORM_TICK (R298). -/
theorem platformTick_devices (s : State) (c : Nat) (h : s.params.tick = .spec) :
    (platformTick s c).timer = (timerTick s.timer s.intr.ifl c).1 ∧
      (platformTick s c).ppu = (ppuTick s.ppu (timerTick s.timer s.intr.ifl c).2 (4 * c)).1 ∧
      (platformTick s c).apu = apuTick s.params.apu s.apu c ∧ (platformTick s c).own = s.own := by
  have e := deviceTick_spec s c h
  refine ⟨?_, ?_, ?_, ?_⟩ <;> (rw [platformTick_eq, e]; rfl)

@[simp] theorem platformTick_regs (s : State) (c : Nat) : (platformTick s c).regs = s.regs := rfl

@[simp] theorem platformTick_ime (s : State) (c : Nat) : (platformTick s c).intr.ime = s.intr.ime := rfl

@[simp] theorem platformTick_eiPending (s : State) (c : Nat) : (platformTick s c).intr.eiPending = s.intr.eiPending := rfl

@[simp] theorem platformTick_halted (s : State) (c : Nat) : (platformTick s c).halted = s.halted := rfl

@[simp] theorem platformTick_stopped (s : State) (c : Nat) : (platformTick s c).stopped = s.stopped := rfl

@[simp] theorem platformTick_haltBugLatch (s : State) (c : Nat) : (platformTick s c).haltBugLatch = s.haltBugLatch := rfl

@[simp] theorem platformTick_fault (s : State) (c : Nat) : (platformTick s c).fault = s.fault := rfl

@[simp] theorem platformTick_rom (s : State) (c : Nat) : (platformTick s c).rom = s.rom := rfl

@[simp] theorem platformTick_bootRom (s : State) (c : Nat) : (platformTick s c).bootRom = s.bootRom := rfl

@[simp] theorem platformTick_params (s : State) (c : Nat) : (platformTick s c).params = s.params := rfl

@[simp] theorem platformTick_ram (s : State) (c : Nat) : (platformTick s c).ram = s.ram := rfl

@[simp] theorem platformTick_waveRam (s : State) (c : Nat) : (platformTick s c).waveRam = s.waveRam := rfl

@[simp] theorem platformTick_mbc (s : State) (c : Nat) : (platformTick s c).mbc = s.mbc := rfl

@[simp] theorem platformTick_extRam (s : State) (c : Nat) : (platformTick s c).extRam = s.extRam := rfl

@[simp] theorem platformTick_totalCycles (s : State) (c : Nat) :
    (platformTick s c).ctl.totalCycles = s.ctl.totalCycles + c := rfl

end Sys2Proof.Machine
end

