-- ==== Sys2Proof/Laws/Exec.lean ====
section
/-! SUPPORT. Everything an instruction can do to the machine, said once: `exec_effect`. Invariants and frames are cases of it. -/

namespace Sys2Proof.Machine

/-- The next states an instruction can have: new registers; new registers after one store, or after two; new registers with
IME and `ei_pending` written; HALT; STOP. -/
inductive Effect (i : Instr) (s : State) : State → Prop
  | regs (r : Regs) (hs : storeAddrs i s = []) (hm : writesIme i = false) : Effect i s (s.withRegs r)
  | store1 (a : Word) (v : Byte) (r : Regs) (hs : storeAddrs i s = [a]) (hm : writesIme i = false) :
      Effect i s ((busWrite s a v).withRegs r)
  | store2 (a b : Word) (v w : Byte) (r : Regs) (hs : storeAddrs i s = [a, b]) (hm : writesIme i = false) :
      Effect i s ((busWrite (busWrite s a v) b w).withRegs r)
  | ime (r : Regs) (x y : Bool) (hs : storeAddrs i s = []) (hm : writesIme i = true) :
      Effect i s { s.withRegs r with intr := { s.intr with ime := x, eiPending := y } }
  | halt (hi : i = .halt) : Effect i s (haltStep s)
  | stop (x : Byte) (hi : i = .stop x) : Effect i s (stopStep s)

theorem effect_push (i : Instr) (s : State) (v : Word) (hs : storeAddrs i s = pushAddrs s) (hm : writesIme i = false) :
    Effect i s (push16 s v) := by
  rw [push16_eq]
  exact .store2 (s.sp - 1) (s.sp - 2) _ _ _ hs hm

theorem effect_call (i : Instr) (s : State) (a : Word) (hs : storeAddrs i s = pushAddrs s) (hm : writesIme i = false) :
    Effect i s (callTo a s) := by
  unfold callTo
  rw [push16_eq]
  exact .store2 (s.sp - 1) (s.sp - 2) _ _ _ hs hm

theorem effect_callCond (i : Instr) (cc : Cond) (s : State) (a : Word)
    (hs : storeAddrs i s = if s.cond cc then pushAddrs s else []) (hm : writesIme i = false) :
    Effect i s (whenCond cc (callTo a s) s) := by
  unfold whenCond
  split
  · next h => exact effect_call i s a (by rw [hs, if_pos h]) hm
  · next h => exact .regs s.regs (by rw [hs, if_neg h]) hm

theorem effect_cond (i : Instr) (cc : Cond) (r : Regs) (s : State) (hs : storeAddrs i s = []) (hm : writesIme i = false) :
    Effect i s (whenCond cc (s.withRegs r) s) := by
  unfold whenCond
  split
  · exact .regs r hs hm
  · exact .regs s.regs hs hm

/-- A CB-page byte's effect: registers only, or one store at HL. -/
theorem cbStep_effect (o : Byte) (s : State) : Effect (.prefixCb o) s (cbStep o s) := by
  have hs : storeAddrs (.prefixCb o) s = if o.extractLsb' 0 3 = 6 ∧ o.extractLsb' 6 2 ≠ 1 then [s.hl] else [] := by
    unfold storeAddrs encode cbPrefix
    simp
  have loc : ∀ z : BitVec 3, (∃ r, Loc8.ofCode z = .reg r ∧ z ≠ 6) ∨ (Loc8.ofCode z = .atHl ∧ z = 6) := by
    intro z
    have : ∀ z : BitVec 3, (∃ r ∈ [R8.a, .b, .c, .d, .e, .h, .l], Loc8.ofCode z = .reg r ∧ z ≠ 6)
        ∨ (Loc8.ofCode z = .atHl ∧ z = 6) := by decide
    rcases this z with ⟨r, -, h⟩ | h
    · exact .inl ⟨r, h⟩
    · exact .inr h
  have two : ∀ x : BitVec 2, x.toNat = 1 ↔ x = 1 := by decide
  unfold cbStep
  rcases loc (o.extractLsb' 0 3) with ⟨r, hl, hz⟩ | ⟨hl, hz⟩
  · rw [if_neg (fun h => hz h.1)] at hs
    rw [hl]
    dsimp only
    split <;> exact .regs _ hs rfl
  · rw [hl]
    dsimp only
    split
    · next h => exact .store1 s.hl _ _ (by rw [hs, if_pos ⟨hz, fun e => by rw [e] at h; cases h⟩]) rfl
    · next h => exact .regs _ (by rw [hs, if_neg (fun e => e.2 ((two _).mp h))]) rfl
    · next h => exact .store1 s.hl _ _ (by rw [hs, if_pos ⟨hz, fun e => by rw [e] at h; cases h⟩]) rfl
    · next h1 h2 h3 => exact .store1 s.hl _ _ (by rw [hs, if_pos ⟨hz, fun e => h2 ((two _).mpr e)⟩]) rfl

/-- EVERYTHING AN INSTRUCTION CAN DO when it answers a next state. -/
theorem exec_effect (i : Instr) (s t : State) (h : exec i s = .next t) : Effect i s t := by
  cases i
  case prefixCb o => cases h; exact cbStep_effect o s
  case halt => cases h; exact .halt rfl
  case stop x => cases h; exact .stop x rfl
  case ldAtBcA | ldAtDeA | ldAtHlIncA | ldAtHlDecA | incAtHl | decAtHl | ldAtHlN | ldAtHlB | ldAtHlC | ldAtHlD |
      ldAtHlE | ldAtHlH | ldAtHlL | ldAtHlA | ldhAtNA | ldAtCA | ldAtNnA | rlcAtHl | rrcAtHl | rlAtHl | rrAtHl |
      slaAtHl | sraAtHl | swapAtHl | srlAtHl | res0AtHl | res1AtHl | res2AtHl | res3AtHl | res4AtHl | res5AtHl |
      res6AtHl | res7AtHl | set0AtHl | set1AtHl | set2AtHl | set3AtHl | set4AtHl | set5AtHl | set6AtHl | set7AtHl =>
    cases h
    exact .store1 _ _ _ rfl rfl
  case ldAtNnSp =>
    cases h
    exact .store2 _ _ _ _ _ rfl rfl
  case pushBc | pushDe | pushHl | pushAf =>
    cases h
    exact effect_push _ s _ rfl rfl
  case rst00 | callNn | rst08 | rst10 | rst18 | rst20 | rst28 | rst30 | rst38 =>
    cases h
    exact effect_call _ s _ rfl rfl
  case callNzNn | callZNn | callNcNn | callCNn =>
    cases h
    exact effect_callCond _ _ s _ rfl rfl
  case jrNzE | jrZE | jrNcE | jrCE | retNz | jpNzNn | retZ | jpZNn | retNc | jpNcNn | retC | jpCNn =>
    cases h
    exact effect_cond _ _ _ s rfl rfl
  case reti | di | ei =>
    cases h
    exact .ime _ _ _ rfl rfl
  case illegalD3 | illegalDB | illegalDD | illegalE3 | illegalE4 | illegalEB | illegalEC | illegalED | illegalF4 |
      illegalFC | illegalFD =>
    cases h
  all_goals (cases h; exact .regs _ rfl rfl)

/-- The cost by the default of CYCLES, the table of opcode_table.json (spec/70_reset_and_hazards.md R383). -/
theorem instrCycles_default (i : Instr) (s : State) (h : s.params.cycles = CycleTable.default) :
    instrCycles i s = tableCycles CycleTable.default i s := by
  unfold instrCycles
  rw [h]

/-- How to show that an instruction completes: what `exec` answers, and its cost by the default table. -/
theorem completes_of {i : Instr} {c : Nat} {s t : State} (he : exec i s = .next t)
    (hc : tableCycles CycleTable.default i s = c) : Completes i c s t :=
  ⟨he, fun h => (instrCycles_default i s h).trans hc⟩

end Sys2Proof.Machine
end

