-- ==== Sys2Proof/Laws/PerInstr.lean ====
section
/-! SUPPORT. One lemma per constructor: the first byte of an instruction gives its length (spec/30_encoding.md R75, R77). -/

/-- The family OpcodeLength: the instruction has 1 to 3 bytes, as many as its first byte says (R75, R77). -/
def Sys2Proof.Laws.OpcodeLength.Statement (i : Sys2Proof.Instr) : Prop :=
  i.length = Sys2Proof.lengthOfOpcode ((Sys2Proof.encode i).headD 0) ∧ 1 ≤ i.length ∧ i.length ≤ 3

namespace Sys2Proof.Laws.OpcodeLength

/-- The statement, from the first byte and its length. -/
theorem of_first {i : Sys2Proof.Instr} (op : Sys2Proof.Byte) (n : Nat) (hop : (Sys2Proof.encode i).headD 0 = op)
    (hl : i.length = n) (hn : Sys2Proof.lengthOfOpcode op = n) (h1 : 1 ≤ n) (h3 : n ≤ 3) : Statement i := by
  subst hop hn
  exact ⟨hl, by omega, by omega⟩

theorem nop : Statement .nop := of_first 0x00 1 rfl rfl rfl (by decide) (by decide)
theorem ldBcNn (nn : Sys2Proof.Word) : Statement (.ldBcNn nn) := of_first 0x01 3 rfl rfl rfl (by decide) (by decide)
theorem ldAtBcA : Statement .ldAtBcA := of_first 0x02 1 rfl rfl rfl (by decide) (by decide)
theorem incBc : Statement .incBc := of_first 0x03 1 rfl rfl rfl (by decide) (by decide)
theorem incB : Statement .incB := of_first 0x04 1 rfl rfl rfl (by decide) (by decide)
theorem decB : Statement .decB := of_first 0x05 1 rfl rfl rfl (by decide) (by decide)
theorem ldBN (n : Sys2Proof.Byte) : Statement (.ldBN n) := of_first 0x06 2 rfl rfl rfl (by decide) (by decide)
theorem rlca : Statement .rlca := of_first 0x07 1 rfl rfl rfl (by decide) (by decide)
theorem ldAtNnSp (nn : Sys2Proof.Word) : Statement (.ldAtNnSp nn) := of_first 0x08 3 rfl rfl rfl (by decide) (by decide)
theorem addHlBc : Statement .addHlBc := of_first 0x09 1 rfl rfl rfl (by decide) (by decide)
theorem ldAAtBc : Statement .ldAAtBc := of_first 0x0A 1 rfl rfl rfl (by decide) (by decide)
theorem decBc : Statement .decBc := of_first 0x0B 1 rfl rfl rfl (by decide) (by decide)
theorem incC : Statement .incC := of_first 0x0C 1 rfl rfl rfl (by decide) (by decide)
theorem decC : Statement .decC := of_first 0x0D 1 rfl rfl rfl (by decide) (by decide)
theorem ldCN (n : Sys2Proof.Byte) : Statement (.ldCN n) := of_first 0x0E 2 rfl rfl rfl (by decide) (by decide)
theorem rrca : Statement .rrca := of_first 0x0F 1 rfl rfl rfl (by decide) (by decide)
theorem stop (x : Sys2Proof.Byte) : Statement (.stop x) := of_first 0x10 2 rfl rfl rfl (by decide) (by decide)
theorem ldDeNn (nn : Sys2Proof.Word) : Statement (.ldDeNn nn) := of_first 0x11 3 rfl rfl rfl (by decide) (by decide)
theorem ldAtDeA : Statement .ldAtDeA := of_first 0x12 1 rfl rfl rfl (by decide) (by decide)
theorem incDe : Statement .incDe := of_first 0x13 1 rfl rfl rfl (by decide) (by decide)
theorem incD : Statement .incD := of_first 0x14 1 rfl rfl rfl (by decide) (by decide)
theorem decD : Statement .decD := of_first 0x15 1 rfl rfl rfl (by decide) (by decide)
theorem ldDN (n : Sys2Proof.Byte) : Statement (.ldDN n) := of_first 0x16 2 rfl rfl rfl (by decide) (by decide)
theorem rla : Statement .rla := of_first 0x17 1 rfl rfl rfl (by decide) (by decide)
theorem jrE (e : Sys2Proof.Byte) : Statement (.jrE e) := of_first 0x18 2 rfl rfl rfl (by decide) (by decide)
theorem addHlDe : Statement .addHlDe := of_first 0x19 1 rfl rfl rfl (by decide) (by decide)
theorem ldAAtDe : Statement .ldAAtDe := of_first 0x1A 1 rfl rfl rfl (by decide) (by decide)
theorem decDe : Statement .decDe := of_first 0x1B 1 rfl rfl rfl (by decide) (by decide)
theorem incE : Statement .incE := of_first 0x1C 1 rfl rfl rfl (by decide) (by decide)
theorem decE : Statement .decE := of_first 0x1D 1 rfl rfl rfl (by decide) (by decide)
theorem ldEN (n : Sys2Proof.Byte) : Statement (.ldEN n) := of_first 0x1E 2 rfl rfl rfl (by decide) (by decide)
theorem rra : Statement .rra := of_first 0x1F 1 rfl rfl rfl (by decide) (by decide)
theorem jrNzE (e : Sys2Proof.Byte) : Statement (.jrNzE e) := of_first 0x20 2 rfl rfl rfl (by decide) (by decide)
theorem ldHlNn (nn : Sys2Proof.Word) : Statement (.ldHlNn nn) := of_first 0x21 3 rfl rfl rfl (by decide) (by decide)
theorem ldAtHlIncA : Statement .ldAtHlIncA := of_first 0x22 1 rfl rfl rfl (by decide) (by decide)
theorem incHl : Statement .incHl := of_first 0x23 1 rfl rfl rfl (by decide) (by decide)
theorem incH : Statement .incH := of_first 0x24 1 rfl rfl rfl (by decide) (by decide)
theorem decH : Statement .decH := of_first 0x25 1 rfl rfl rfl (by decide) (by decide)
theorem ldHN (n : Sys2Proof.Byte) : Statement (.ldHN n) := of_first 0x26 2 rfl rfl rfl (by decide) (by decide)
theorem daa : Statement .daa := of_first 0x27 1 rfl rfl rfl (by decide) (by decide)
theorem jrZE (e : Sys2Proof.Byte) : Statement (.jrZE e) := of_first 0x28 2 rfl rfl rfl (by decide) (by decide)
theorem addHlHl : Statement .addHlHl := of_first 0x29 1 rfl rfl rfl (by decide) (by decide)
theorem ldAAtHlInc : Statement .ldAAtHlInc := of_first 0x2A 1 rfl rfl rfl (by decide) (by decide)
theorem decHl : Statement .decHl := of_first 0x2B 1 rfl rfl rfl (by decide) (by decide)
theorem incL : Statement .incL := of_first 0x2C 1 rfl rfl rfl (by decide) (by decide)
theorem decL : Statement .decL := of_first 0x2D 1 rfl rfl rfl (by decide) (by decide)
theorem ldLN (n : Sys2Proof.Byte) : Statement (.ldLN n) := of_first 0x2E 2 rfl rfl rfl (by decide) (by decide)
theorem cpl : Statement .cpl := of_first 0x2F 1 rfl rfl rfl (by decide) (by decide)
theorem jrNcE (e : Sys2Proof.Byte) : Statement (.jrNcE e) := of_first 0x30 2 rfl rfl rfl (by decide) (by decide)
theorem ldSpNn (nn : Sys2Proof.Word) : Statement (.ldSpNn nn) := of_first 0x31 3 rfl rfl rfl (by decide) (by decide)
theorem ldAtHlDecA : Statement .ldAtHlDecA := of_first 0x32 1 rfl rfl rfl (by decide) (by decide)
theorem incSp : Statement .incSp := of_first 0x33 1 rfl rfl rfl (by decide) (by decide)
theorem incAtHl : Statement .incAtHl := of_first 0x34 1 rfl rfl rfl (by decide) (by decide)
theorem decAtHl : Statement .decAtHl := of_first 0x35 1 rfl rfl rfl (by decide) (by decide)
theorem ldAtHlN (n : Sys2Proof.Byte) : Statement (.ldAtHlN n) := of_first 0x36 2 rfl rfl rfl (by decide) (by decide)
theorem scf : Statement .scf := of_first 0x37 1 rfl rfl rfl (by decide) (by decide)
theorem jrCE (e : Sys2Proof.Byte) : Statement (.jrCE e) := of_first 0x38 2 rfl rfl rfl (by decide) (by decide)
theorem addHlSp : Statement .addHlSp := of_first 0x39 1 rfl rfl rfl (by decide) (by decide)
theorem ldAAtHlDec : Statement .ldAAtHlDec := of_first 0x3A 1 rfl rfl rfl (by decide) (by decide)
theorem decSp : Statement .decSp := of_first 0x3B 1 rfl rfl rfl (by decide) (by decide)
theorem incA : Statement .incA := of_first 0x3C 1 rfl rfl rfl (by decide) (by decide)
theorem decA : Statement .decA := of_first 0x3D 1 rfl rfl rfl (by decide) (by decide)
theorem ldAN (n : Sys2Proof.Byte) : Statement (.ldAN n) := of_first 0x3E 2 rfl rfl rfl (by decide) (by decide)
theorem ccf : Statement .ccf := of_first 0x3F 1 rfl rfl rfl (by decide) (by decide)
theorem ldBB : Statement .ldBB := of_first 0x40 1 rfl rfl rfl (by decide) (by decide)
theorem ldBC : Statement .ldBC := of_first 0x41 1 rfl rfl rfl (by decide) (by decide)
theorem ldBD : Statement .ldBD := of_first 0x42 1 rfl rfl rfl (by decide) (by decide)
theorem ldBE : Statement .ldBE := of_first 0x43 1 rfl rfl rfl (by decide) (by decide)
theorem ldBH : Statement .ldBH := of_first 0x44 1 rfl rfl rfl (by decide) (by decide)
theorem ldBL : Statement .ldBL := of_first 0x45 1 rfl rfl rfl (by decide) (by decide)
theorem ldBAtHl : Statement .ldBAtHl := of_first 0x46 1 rfl rfl rfl (by decide) (by decide)
theorem ldBA : Statement .ldBA := of_first 0x47 1 rfl rfl rfl (by decide) (by decide)
theorem ldCB : Statement .ldCB := of_first 0x48 1 rfl rfl rfl (by decide) (by decide)
theorem ldCC : Statement .ldCC := of_first 0x49 1 rfl rfl rfl (by decide) (by decide)
theorem ldCD : Statement .ldCD := of_first 0x4A 1 rfl rfl rfl (by decide) (by decide)
theorem ldCE : Statement .ldCE := of_first 0x4B 1 rfl rfl rfl (by decide) (by decide)
theorem ldCH : Statement .ldCH := of_first 0x4C 1 rfl rfl rfl (by decide) (by decide)
theorem ldCL : Statement .ldCL := of_first 0x4D 1 rfl rfl rfl (by decide) (by decide)
theorem ldCAtHl : Statement .ldCAtHl := of_first 0x4E 1 rfl rfl rfl (by decide) (by decide)
theorem ldCA : Statement .ldCA := of_first 0x4F 1 rfl rfl rfl (by decide) (by decide)
theorem ldDB : Statement .ldDB := of_first 0x50 1 rfl rfl rfl (by decide) (by decide)
theorem ldDC : Statement .ldDC := of_first 0x51 1 rfl rfl rfl (by decide) (by decide)
theorem ldDD : Statement .ldDD := of_first 0x52 1 rfl rfl rfl (by decide) (by decide)
theorem ldDE : Statement .ldDE := of_first 0x53 1 rfl rfl rfl (by decide) (by decide)
theorem ldDH : Statement .ldDH := of_first 0x54 1 rfl rfl rfl (by decide) (by decide)
theorem ldDL : Statement .ldDL := of_first 0x55 1 rfl rfl rfl (by decide) (by decide)
theorem ldDAtHl : Statement .ldDAtHl := of_first 0x56 1 rfl rfl rfl (by decide) (by decide)
theorem ldDA : Statement .ldDA := of_first 0x57 1 rfl rfl rfl (by decide) (by decide)
theorem ldEB : Statement .ldEB := of_first 0x58 1 rfl rfl rfl (by decide) (by decide)
theorem ldEC : Statement .ldEC := of_first 0x59 1 rfl rfl rfl (by decide) (by decide)
theorem ldED : Statement .ldED := of_first 0x5A 1 rfl rfl rfl (by decide) (by decide)
theorem ldEE : Statement .ldEE := of_first 0x5B 1 rfl rfl rfl (by decide) (by decide)
theorem ldEH : Statement .ldEH := of_first 0x5C 1 rfl rfl rfl (by decide) (by decide)
theorem ldEL : Statement .ldEL := of_first 0x5D 1 rfl rfl rfl (by decide) (by decide)
theorem ldEAtHl : Statement .ldEAtHl := of_first 0x5E 1 rfl rfl rfl (by decide) (by decide)
theorem ldEA : Statement .ldEA := of_first 0x5F 1 rfl rfl rfl (by decide) (by decide)
theorem ldHB : Statement .ldHB := of_first 0x60 1 rfl rfl rfl (by decide) (by decide)
theorem ldHC : Statement .ldHC := of_first 0x61 1 rfl rfl rfl (by decide) (by decide)
theorem ldHD : Statement .ldHD := of_first 0x62 1 rfl rfl rfl (by decide) (by decide)
theorem ldHE : Statement .ldHE := of_first 0x63 1 rfl rfl rfl (by decide) (by decide)
theorem ldHH : Statement .ldHH := of_first 0x64 1 rfl rfl rfl (by decide) (by decide)
theorem ldHL : Statement .ldHL := of_first 0x65 1 rfl rfl rfl (by decide) (by decide)
theorem ldHAtHl : Statement .ldHAtHl := of_first 0x66 1 rfl rfl rfl (by decide) (by decide)
theorem ldHA : Statement .ldHA := of_first 0x67 1 rfl rfl rfl (by decide) (by decide)
theorem ldLB : Statement .ldLB := of_first 0x68 1 rfl rfl rfl (by decide) (by decide)
theorem ldLC : Statement .ldLC := of_first 0x69 1 rfl rfl rfl (by decide) (by decide)
theorem ldLD : Statement .ldLD := of_first 0x6A 1 rfl rfl rfl (by decide) (by decide)
theorem ldLE : Statement .ldLE := of_first 0x6B 1 rfl rfl rfl (by decide) (by decide)
theorem ldLH : Statement .ldLH := of_first 0x6C 1 rfl rfl rfl (by decide) (by decide)
theorem ldLL : Statement .ldLL := of_first 0x6D 1 rfl rfl rfl (by decide) (by decide)
theorem ldLAtHl : Statement .ldLAtHl := of_first 0x6E 1 rfl rfl rfl (by decide) (by decide)
theorem ldLA : Statement .ldLA := of_first 0x6F 1 rfl rfl rfl (by decide) (by decide)
theorem ldAtHlB : Statement .ldAtHlB := of_first 0x70 1 rfl rfl rfl (by decide) (by decide)
theorem ldAtHlC : Statement .ldAtHlC := of_first 0x71 1 rfl rfl rfl (by decide) (by decide)
theorem ldAtHlD : Statement .ldAtHlD := of_first 0x72 1 rfl rfl rfl (by decide) (by decide)
theorem ldAtHlE : Statement .ldAtHlE := of_first 0x73 1 rfl rfl rfl (by decide) (by decide)
theorem ldAtHlH : Statement .ldAtHlH := of_first 0x74 1 rfl rfl rfl (by decide) (by decide)
theorem ldAtHlL : Statement .ldAtHlL := of_first 0x75 1 rfl rfl rfl (by decide) (by decide)
theorem halt : Statement .halt := of_first 0x76 1 rfl rfl rfl (by decide) (by decide)
theorem ldAtHlA : Statement .ldAtHlA := of_first 0x77 1 rfl rfl rfl (by decide) (by decide)
theorem ldAB : Statement .ldAB := of_first 0x78 1 rfl rfl rfl (by decide) (by decide)
theorem ldAC : Statement .ldAC := of_first 0x79 1 rfl rfl rfl (by decide) (by decide)
theorem ldAD : Statement .ldAD := of_first 0x7A 1 rfl rfl rfl (by decide) (by decide)
theorem ldAE : Statement .ldAE := of_first 0x7B 1 rfl rfl rfl (by decide) (by decide)
theorem ldAH : Statement .ldAH := of_first 0x7C 1 rfl rfl rfl (by decide) (by decide)
theorem ldAL : Statement .ldAL := of_first 0x7D 1 rfl rfl rfl (by decide) (by decide)
theorem ldAAtHl : Statement .ldAAtHl := of_first 0x7E 1 rfl rfl rfl (by decide) (by decide)
theorem ldAA : Statement .ldAA := of_first 0x7F 1 rfl rfl rfl (by decide) (by decide)
theorem addAB : Statement .addAB := of_first 0x80 1 rfl rfl rfl (by decide) (by decide)
theorem addAC : Statement .addAC := of_first 0x81 1 rfl rfl rfl (by decide) (by decide)
theorem addAD : Statement .addAD := of_first 0x82 1 rfl rfl rfl (by decide) (by decide)
theorem addAE : Statement .addAE := of_first 0x83 1 rfl rfl rfl (by decide) (by decide)
theorem addAH : Statement .addAH := of_first 0x84 1 rfl rfl rfl (by decide) (by decide)
theorem addAL : Statement .addAL := of_first 0x85 1 rfl rfl rfl (by decide) (by decide)
theorem addAAtHl : Statement .addAAtHl := of_first 0x86 1 rfl rfl rfl (by decide) (by decide)
theorem addAA : Statement .addAA := of_first 0x87 1 rfl rfl rfl (by decide) (by decide)
theorem adcAB : Statement .adcAB := of_first 0x88 1 rfl rfl rfl (by decide) (by decide)
theorem adcAC : Statement .adcAC := of_first 0x89 1 rfl rfl rfl (by decide) (by decide)
theorem adcAD : Statement .adcAD := of_first 0x8A 1 rfl rfl rfl (by decide) (by decide)
theorem adcAE : Statement .adcAE := of_first 0x8B 1 rfl rfl rfl (by decide) (by decide)
theorem adcAH : Statement .adcAH := of_first 0x8C 1 rfl rfl rfl (by decide) (by decide)
theorem adcAL : Statement .adcAL := of_first 0x8D 1 rfl rfl rfl (by decide) (by decide)
theorem adcAAtHl : Statement .adcAAtHl := of_first 0x8E 1 rfl rfl rfl (by decide) (by decide)
theorem adcAA : Statement .adcAA := of_first 0x8F 1 rfl rfl rfl (by decide) (by decide)
theorem subB : Statement .subB := of_first 0x90 1 rfl rfl rfl (by decide) (by decide)
theorem subC : Statement .subC := of_first 0x91 1 rfl rfl rfl (by decide) (by decide)
theorem subD : Statement .subD := of_first 0x92 1 rfl rfl rfl (by decide) (by decide)
theorem subE : Statement .subE := of_first 0x93 1 rfl rfl rfl (by decide) (by decide)
theorem subH : Statement .subH := of_first 0x94 1 rfl rfl rfl (by decide) (by decide)
theorem subL : Statement .subL := of_first 0x95 1 rfl rfl rfl (by decide) (by decide)
theorem subAtHl : Statement .subAtHl := of_first 0x96 1 rfl rfl rfl (by decide) (by decide)
theorem subA : Statement .subA := of_first 0x97 1 rfl rfl rfl (by decide) (by decide)
theorem sbcAB : Statement .sbcAB := of_first 0x98 1 rfl rfl rfl (by decide) (by decide)
theorem sbcAC : Statement .sbcAC := of_first 0x99 1 rfl rfl rfl (by decide) (by decide)
theorem sbcAD : Statement .sbcAD := of_first 0x9A 1 rfl rfl rfl (by decide) (by decide)
theorem sbcAE : Statement .sbcAE := of_first 0x9B 1 rfl rfl rfl (by decide) (by decide)
theorem sbcAH : Statement .sbcAH := of_first 0x9C 1 rfl rfl rfl (by decide) (by decide)
theorem sbcAL : Statement .sbcAL := of_first 0x9D 1 rfl rfl rfl (by decide) (by decide)
theorem sbcAAtHl : Statement .sbcAAtHl := of_first 0x9E 1 rfl rfl rfl (by decide) (by decide)
theorem sbcAA : Statement .sbcAA := of_first 0x9F 1 rfl rfl rfl (by decide) (by decide)
theorem andB : Statement .andB := of_first 0xA0 1 rfl rfl rfl (by decide) (by decide)
theorem andC : Statement .andC := of_first 0xA1 1 rfl rfl rfl (by decide) (by decide)
theorem andD : Statement .andD := of_first 0xA2 1 rfl rfl rfl (by decide) (by decide)
theorem andE : Statement .andE := of_first 0xA3 1 rfl rfl rfl (by decide) (by decide)
theorem andH : Statement .andH := of_first 0xA4 1 rfl rfl rfl (by decide) (by decide)
theorem andL : Statement .andL := of_first 0xA5 1 rfl rfl rfl (by decide) (by decide)
theorem andAtHl : Statement .andAtHl := of_first 0xA6 1 rfl rfl rfl (by decide) (by decide)
theorem andA : Statement .andA := of_first 0xA7 1 rfl rfl rfl (by decide) (by decide)
theorem xorB : Statement .xorB := of_first 0xA8 1 rfl rfl rfl (by decide) (by decide)
theorem xorC : Statement .xorC := of_first 0xA9 1 rfl rfl rfl (by decide) (by decide)
theorem xorD : Statement .xorD := of_first 0xAA 1 rfl rfl rfl (by decide) (by decide)
theorem xorE : Statement .xorE := of_first 0xAB 1 rfl rfl rfl (by decide) (by decide)
theorem xorH : Statement .xorH := of_first 0xAC 1 rfl rfl rfl (by decide) (by decide)
theorem xorL : Statement .xorL := of_first 0xAD 1 rfl rfl rfl (by decide) (by decide)
theorem xorAtHl : Statement .xorAtHl := of_first 0xAE 1 rfl rfl rfl (by decide) (by decide)
theorem xorA : Statement .xorA := of_first 0xAF 1 rfl rfl rfl (by decide) (by decide)
theorem orB : Statement .orB := of_first 0xB0 1 rfl rfl rfl (by decide) (by decide)
theorem orC : Statement .orC := of_first 0xB1 1 rfl rfl rfl (by decide) (by decide)
theorem orD : Statement .orD := of_first 0xB2 1 rfl rfl rfl (by decide) (by decide)
theorem orE : Statement .orE := of_first 0xB3 1 rfl rfl rfl (by decide) (by decide)
theorem orH : Statement .orH := of_first 0xB4 1 rfl rfl rfl (by decide) (by decide)
theorem orL : Statement .orL := of_first 0xB5 1 rfl rfl rfl (by decide) (by decide)
theorem orAtHl : Statement .orAtHl := of_first 0xB6 1 rfl rfl rfl (by decide) (by decide)
theorem orA : Statement .orA := of_first 0xB7 1 rfl rfl rfl (by decide) (by decide)
theorem cpB : Statement .cpB := of_first 0xB8 1 rfl rfl rfl (by decide) (by decide)
theorem cpC : Statement .cpC := of_first 0xB9 1 rfl rfl rfl (by decide) (by decide)
theorem cpD : Statement .cpD := of_first 0xBA 1 rfl rfl rfl (by decide) (by decide)
theorem cpE : Statement .cpE := of_first 0xBB 1 rfl rfl rfl (by decide) (by decide)
theorem cpH : Statement .cpH := of_first 0xBC 1 rfl rfl rfl (by decide) (by decide)
theorem cpL : Statement .cpL := of_first 0xBD 1 rfl rfl rfl (by decide) (by decide)
theorem cpAtHl : Statement .cpAtHl := of_first 0xBE 1 rfl rfl rfl (by decide) (by decide)
theorem cpA : Statement .cpA := of_first 0xBF 1 rfl rfl rfl (by decide) (by decide)
theorem retNz : Statement .retNz := of_first 0xC0 1 rfl rfl rfl (by decide) (by decide)
theorem popBc : Statement .popBc := of_first 0xC1 1 rfl rfl rfl (by decide) (by decide)
theorem jpNzNn (nn : Sys2Proof.Word) : Statement (.jpNzNn nn) := of_first 0xC2 3 rfl rfl rfl (by decide) (by decide)
theorem jpNn (nn : Sys2Proof.Word) : Statement (.jpNn nn) := of_first 0xC3 3 rfl rfl rfl (by decide) (by decide)
theorem callNzNn (nn : Sys2Proof.Word) : Statement (.callNzNn nn) := of_first 0xC4 3 rfl rfl rfl (by decide) (by decide)
theorem pushBc : Statement .pushBc := of_first 0xC5 1 rfl rfl rfl (by decide) (by decide)
theorem addAN (n : Sys2Proof.Byte) : Statement (.addAN n) := of_first 0xC6 2 rfl rfl rfl (by decide) (by decide)
theorem rst00 : Statement .rst00 := of_first 0xC7 1 rfl rfl rfl (by decide) (by decide)
theorem retZ : Statement .retZ := of_first 0xC8 1 rfl rfl rfl (by decide) (by decide)
theorem ret : Statement .ret := of_first 0xC9 1 rfl rfl rfl (by decide) (by decide)
theorem jpZNn (nn : Sys2Proof.Word) : Statement (.jpZNn nn) := of_first 0xCA 3 rfl rfl rfl (by decide) (by decide)
theorem prefixCb (o : Sys2Proof.Byte) : Statement (.prefixCb o) := of_first 0xCB 2 rfl rfl rfl (by decide) (by decide)
theorem callZNn (nn : Sys2Proof.Word) : Statement (.callZNn nn) := of_first 0xCC 3 rfl rfl rfl (by decide) (by decide)
theorem callNn (nn : Sys2Proof.Word) : Statement (.callNn nn) := of_first 0xCD 3 rfl rfl rfl (by decide) (by decide)
theorem adcAN (n : Sys2Proof.Byte) : Statement (.adcAN n) := of_first 0xCE 2 rfl rfl rfl (by decide) (by decide)
theorem rst08 : Statement .rst08 := of_first 0xCF 1 rfl rfl rfl (by decide) (by decide)
theorem retNc : Statement .retNc := of_first 0xD0 1 rfl rfl rfl (by decide) (by decide)
theorem popDe : Statement .popDe := of_first 0xD1 1 rfl rfl rfl (by decide) (by decide)
theorem jpNcNn (nn : Sys2Proof.Word) : Statement (.jpNcNn nn) := of_first 0xD2 3 rfl rfl rfl (by decide) (by decide)
theorem illegalD3 : Statement .illegalD3 := of_first 0xD3 1 rfl rfl rfl (by decide) (by decide)
theorem callNcNn (nn : Sys2Proof.Word) : Statement (.callNcNn nn) := of_first 0xD4 3 rfl rfl rfl (by decide) (by decide)
theorem pushDe : Statement .pushDe := of_first 0xD5 1 rfl rfl rfl (by decide) (by decide)
theorem subN (n : Sys2Proof.Byte) : Statement (.subN n) := of_first 0xD6 2 rfl rfl rfl (by decide) (by decide)
theorem rst10 : Statement .rst10 := of_first 0xD7 1 rfl rfl rfl (by decide) (by decide)
theorem retC : Statement .retC := of_first 0xD8 1 rfl rfl rfl (by decide) (by decide)
theorem reti : Statement .reti := of_first 0xD9 1 rfl rfl rfl (by decide) (by decide)
theorem jpCNn (nn : Sys2Proof.Word) : Statement (.jpCNn nn) := of_first 0xDA 3 rfl rfl rfl (by decide) (by decide)
theorem illegalDB : Statement .illegalDB := of_first 0xDB 1 rfl rfl rfl (by decide) (by decide)
theorem callCNn (nn : Sys2Proof.Word) : Statement (.callCNn nn) := of_first 0xDC 3 rfl rfl rfl (by decide) (by decide)
theorem illegalDD : Statement .illegalDD := of_first 0xDD 1 rfl rfl rfl (by decide) (by decide)
theorem sbcAN (n : Sys2Proof.Byte) : Statement (.sbcAN n) := of_first 0xDE 2 rfl rfl rfl (by decide) (by decide)
theorem rst18 : Statement .rst18 := of_first 0xDF 1 rfl rfl rfl (by decide) (by decide)
theorem ldhAtNA (n : Sys2Proof.Byte) : Statement (.ldhAtNA n) := of_first 0xE0 2 rfl rfl rfl (by decide) (by decide)
theorem popHl : Statement .popHl := of_first 0xE1 1 rfl rfl rfl (by decide) (by decide)
theorem ldAtCA : Statement .ldAtCA := of_first 0xE2 1 rfl rfl rfl (by decide) (by decide)
theorem illegalE3 : Statement .illegalE3 := of_first 0xE3 1 rfl rfl rfl (by decide) (by decide)
theorem illegalE4 : Statement .illegalE4 := of_first 0xE4 1 rfl rfl rfl (by decide) (by decide)
theorem pushHl : Statement .pushHl := of_first 0xE5 1 rfl rfl rfl (by decide) (by decide)
theorem andN (n : Sys2Proof.Byte) : Statement (.andN n) := of_first 0xE6 2 rfl rfl rfl (by decide) (by decide)
theorem rst20 : Statement .rst20 := of_first 0xE7 1 rfl rfl rfl (by decide) (by decide)
theorem addSpE (e : Sys2Proof.Byte) : Statement (.addSpE e) := of_first 0xE8 2 rfl rfl rfl (by decide) (by decide)
theorem jpHl : Statement .jpHl := of_first 0xE9 1 rfl rfl rfl (by decide) (by decide)
theorem ldAtNnA (nn : Sys2Proof.Word) : Statement (.ldAtNnA nn) := of_first 0xEA 3 rfl rfl rfl (by decide) (by decide)
theorem illegalEB : Statement .illegalEB := of_first 0xEB 1 rfl rfl rfl (by decide) (by decide)
theorem illegalEC : Statement .illegalEC := of_first 0xEC 1 rfl rfl rfl (by decide) (by decide)
theorem illegalED : Statement .illegalED := of_first 0xED 1 rfl rfl rfl (by decide) (by decide)
theorem xorN (n : Sys2Proof.Byte) : Statement (.xorN n) := of_first 0xEE 2 rfl rfl rfl (by decide) (by decide)
theorem rst28 : Statement .rst28 := of_first 0xEF 1 rfl rfl rfl (by decide) (by decide)
theorem ldhAAtN (n : Sys2Proof.Byte) : Statement (.ldhAAtN n) := of_first 0xF0 2 rfl rfl rfl (by decide) (by decide)
theorem popAf : Statement .popAf := of_first 0xF1 1 rfl rfl rfl (by decide) (by decide)
theorem ldAAtC : Statement .ldAAtC := of_first 0xF2 1 rfl rfl rfl (by decide) (by decide)
theorem di : Statement .di := of_first 0xF3 1 rfl rfl rfl (by decide) (by decide)
theorem illegalF4 : Statement .illegalF4 := of_first 0xF4 1 rfl rfl rfl (by decide) (by decide)
theorem pushAf : Statement .pushAf := of_first 0xF5 1 rfl rfl rfl (by decide) (by decide)
theorem orN (n : Sys2Proof.Byte) : Statement (.orN n) := of_first 0xF6 2 rfl rfl rfl (by decide) (by decide)
theorem rst30 : Statement .rst30 := of_first 0xF7 1 rfl rfl rfl (by decide) (by decide)
theorem ldHlSpE (e : Sys2Proof.Byte) : Statement (.ldHlSpE e) := of_first 0xF8 2 rfl rfl rfl (by decide) (by decide)
theorem ldSpHl : Statement .ldSpHl := of_first 0xF9 1 rfl rfl rfl (by decide) (by decide)
theorem ldAAtNn (nn : Sys2Proof.Word) : Statement (.ldAAtNn nn) := of_first 0xFA 3 rfl rfl rfl (by decide) (by decide)
theorem ei : Statement .ei := of_first 0xFB 1 rfl rfl rfl (by decide) (by decide)
theorem illegalFC : Statement .illegalFC := of_first 0xFC 1 rfl rfl rfl (by decide) (by decide)
theorem illegalFD : Statement .illegalFD := of_first 0xFD 1 rfl rfl rfl (by decide) (by decide)
theorem cpN (n : Sys2Proof.Byte) : Statement (.cpN n) := of_first 0xFE 2 rfl rfl rfl (by decide) (by decide)
theorem rst38 : Statement .rst38 := of_first 0xFF 1 rfl rfl rfl (by decide) (by decide)
theorem rlcB : Statement .rlcB := of_first 0xCB 2 rfl rfl rfl (by decide) (by decide)
theorem rlcC : Statement .rlcC := of_first 0xCB 2 rfl rfl rfl (by decide) (by decide)
theorem rlcD : Statement .rlcD := of_first 0xCB 2 rfl rfl rfl (by decide) (by decide)
theorem rlcE : Statement .rlcE := of_first 0xCB 2 rfl rfl rfl (by decide) (by decide)
theorem rlcH : Statement .rlcH := of_first 0xCB 2 rfl rfl rfl (by decide) (by decide)
theorem rlcL : Statement .rlcL := of_first 0xCB 2 rfl rfl rfl (by decide) (by decide)
theorem rlcAtHl : Statement .rlcAtHl := of_first 0xCB 2 rfl rfl rfl (by decide) (by decide)
theorem rlcA : Statement .rlcA := of_first 0xCB 2 rfl rfl rfl (by decide) (by decide)
theorem rrcB : Statement .rrcB := of_first 0xCB 2 rfl rfl rfl (by decide) (by decide)
theorem rrcC : Statement .rrcC := of_first 0xCB 2 rfl rfl rfl (by decide) (by decide)
theorem rrcD : Statement .rrcD := of_first 0xCB 2 rfl rfl rfl (by decide) (by decide)
theorem rrcE : Statement .rrcE := of_first 0xCB 2 rfl rfl rfl (by decide) (by decide)
theorem rrcH : Statement .rrcH := of_first 0xCB 2 rfl rfl rfl (by decide) (by decide)
theorem rrcL : Statement .rrcL := of_first 0xCB 2 rfl rfl rfl (by decide) (by decide)
theorem rrcAtHl : Statement .rrcAtHl := of_first 0xCB 2 rfl rfl rfl (by decide) (by decide)
theorem rrcA : Statement .rrcA := of_first 0xCB 2 rfl rfl rfl (by decide) (by decide)
theorem rlB : Statement .rlB := of_first 0xCB 2 rfl rfl rfl (by decide) (by decide)
theorem rlC : Statement .rlC := of_first 0xCB 2 rfl rfl rfl (by decide) (by decide)
theorem rlD : Statement .rlD := of_first 0xCB 2 rfl rfl rfl (by decide) (by decide)
theorem rlE : Statement .rlE := of_first 0xCB 2 rfl rfl rfl (by decide) (by decide)
theorem rlH : Statement .rlH := of_first 0xCB 2 rfl rfl rfl (by decide) (by decide)
theorem rlL : Statement .rlL := of_first 0xCB 2 rfl rfl rfl (by decide) (by decide)
theorem rlAtHl : Statement .rlAtHl := of_first 0xCB 2 rfl rfl rfl (by decide) (by decide)
theorem rlA : Statement .rlA := of_first 0xCB 2 rfl rfl rfl (by decide) (by decide)
theorem rrB : Statement .rrB := of_first 0xCB 2 rfl rfl rfl (by decide) (by decide)
theorem rrC : Statement .rrC := of_first 0xCB 2 rfl rfl rfl (by decide) (by decide)
theorem rrD : Statement .rrD := of_first 0xCB 2 rfl rfl rfl (by decide) (by decide)
theorem rrE : Statement .rrE := of_first 0xCB 2 rfl rfl rfl (by decide) (by decide)
theorem rrH : Statement .rrH := of_first 0xCB 2 rfl rfl rfl (by decide) (by decide)
theorem rrL : Statement .rrL := of_first 0xCB 2 rfl rfl rfl (by decide) (by decide)
theorem rrAtHl : Statement .rrAtHl := of_first 0xCB 2 rfl rfl rfl (by decide) (by decide)
theorem rrA : Statement .rrA := of_first 0xCB 2 rfl rfl rfl (by decide) (by decide)
theorem slaB : Statement .slaB := of_first 0xCB 2 rfl rfl rfl (by decide) (by decide)
theorem slaC : Statement .slaC := of_first 0xCB 2 rfl rfl rfl (by decide) (by decide)
theorem slaD : Statement .slaD := of_first 0xCB 2 rfl rfl rfl (by decide) (by decide)
theorem slaE : Statement .slaE := of_first 0xCB 2 rfl rfl rfl (by decide) (by decide)
theorem slaH : Statement .slaH := of_first 0xCB 2 rfl rfl rfl (by decide) (by decide)
theorem slaL : Statement .slaL := of_first 0xCB 2 rfl rfl rfl (by decide) (by decide)
theorem slaAtHl : Statement .slaAtHl := of_first 0xCB 2 rfl rfl rfl (by decide) (by decide)
theorem slaA : Statement .slaA := of_first 0xCB 2 rfl rfl rfl (by decide) (by decide)
theorem sraB : Statement .sraB := of_first 0xCB 2 rfl rfl rfl (by decide) (by decide)
theorem sraC : Statement .sraC := of_first 0xCB 2 rfl rfl rfl (by decide) (by decide)
theorem sraD : Statement .sraD := of_first 0xCB 2 rfl rfl rfl (by decide) (by decide)
theorem sraE : Statement .sraE := of_first 0xCB 2 rfl rfl rfl (by decide) (by decide)
theorem sraH : Statement .sraH := of_first 0xCB 2 rfl rfl rfl (by decide) (by decide)
theorem sraL : Statement .sraL := of_first 0xCB 2 rfl rfl rfl (by decide) (by decide)
theorem sraAtHl : Statement .sraAtHl := of_first 0xCB 2 rfl rfl rfl (by decide) (by decide)
theorem sraA : Statement .sraA := of_first 0xCB 2 rfl rfl rfl (by decide) (by decide)
theorem swapB : Statement .swapB := of_first 0xCB 2 rfl rfl rfl (by decide) (by decide)
theorem swapC : Statement .swapC := of_first 0xCB 2 rfl rfl rfl (by decide) (by decide)
theorem swapD : Statement .swapD := of_first 0xCB 2 rfl rfl rfl (by decide) (by decide)
theorem swapE : Statement .swapE := of_first 0xCB 2 rfl rfl rfl (by decide) (by decide)
theorem swapH : Statement .swapH := of_first 0xCB 2 rfl rfl rfl (by decide) (by decide)
theorem swapL : Statement .swapL := of_first 0xCB 2 rfl rfl rfl (by decide) (by decide)
theorem swapAtHl : Statement .swapAtHl := of_first 0xCB 2 rfl rfl rfl (by decide) (by decide)
theorem swapA : Statement .swapA := of_first 0xCB 2 rfl rfl rfl (by decide) (by decide)
theorem srlB : Statement .srlB := of_first 0xCB 2 rfl rfl rfl (by decide) (by decide)
theorem srlC : Statement .srlC := of_first 0xCB 2 rfl rfl rfl (by decide) (by decide)
theorem srlD : Statement .srlD := of_first 0xCB 2 rfl rfl rfl (by decide) (by decide)
theorem srlE : Statement .srlE := of_first 0xCB 2 rfl rfl rfl (by decide) (by decide)
theorem srlH : Statement .srlH := of_first 0xCB 2 rfl rfl rfl (by decide) (by decide)
theorem srlL : Statement .srlL := of_first 0xCB 2 rfl rfl rfl (by decide) (by decide)
theorem srlAtHl : Statement .srlAtHl := of_first 0xCB 2 rfl rfl rfl (by decide) (by decide)
theorem srlA : Statement .srlA := of_first 0xCB 2 rfl rfl rfl (by decide) (by decide)
theorem bit0B : Statement .bit0B := of_first 0xCB 2 rfl rfl rfl (by decide) (by decide)
theorem bit0C : Statement .bit0C := of_first 0xCB 2 rfl rfl rfl (by decide) (by decide)
theorem bit0D : Statement .bit0D := of_first 0xCB 2 rfl rfl rfl (by decide) (by decide)
theorem bit0E : Statement .bit0E := of_first 0xCB 2 rfl rfl rfl (by decide) (by decide)
theorem bit0H : Statement .bit0H := of_first 0xCB 2 rfl rfl rfl (by decide) (by decide)
theorem bit0L : Statement .bit0L := of_first 0xCB 2 rfl rfl rfl (by decide) (by decide)
theorem bit0AtHl : Statement .bit0AtHl := of_first 0xCB 2 rfl rfl rfl (by decide) (by decide)
theorem bit0A : Statement .bit0A := of_first 0xCB 2 rfl rfl rfl (by decide) (by decide)
theorem bit1B : Statement .bit1B := of_first 0xCB 2 rfl rfl rfl (by decide) (by decide)
theorem bit1C : Statement .bit1C := of_first 0xCB 2 rfl rfl rfl (by decide) (by decide)
theorem bit1D : Statement .bit1D := of_first 0xCB 2 rfl rfl rfl (by decide) (by decide)
theorem bit1E : Statement .bit1E := of_first 0xCB 2 rfl rfl rfl (by decide) (by decide)
theorem bit1H : Statement .bit1H := of_first 0xCB 2 rfl rfl rfl (by decide) (by decide)
theorem bit1L : Statement .bit1L := of_first 0xCB 2 rfl rfl rfl (by decide) (by decide)
theorem bit1AtHl : Statement .bit1AtHl := of_first 0xCB 2 rfl rfl rfl (by decide) (by decide)
theorem bit1A : Statement .bit1A := of_first 0xCB 2 rfl rfl rfl (by decide) (by decide)
theorem bit2B : Statement .bit2B := of_first 0xCB 2 rfl rfl rfl (by decide) (by decide)
theorem bit2C : Statement .bit2C := of_first 0xCB 2 rfl rfl rfl (by decide) (by decide)
theorem bit2D : Statement .bit2D := of_first 0xCB 2 rfl rfl rfl (by decide) (by decide)
theorem bit2E : Statement .bit2E := of_first 0xCB 2 rfl rfl rfl (by decide) (by decide)
theorem bit2H : Statement .bit2H := of_first 0xCB 2 rfl rfl rfl (by decide) (by decide)
theorem bit2L : Statement .bit2L := of_first 0xCB 2 rfl rfl rfl (by decide) (by decide)
theorem bit2AtHl : Statement .bit2AtHl := of_first 0xCB 2 rfl rfl rfl (by decide) (by decide)
theorem bit2A : Statement .bit2A := of_first 0xCB 2 rfl rfl rfl (by decide) (by decide)
theorem bit3B : Statement .bit3B := of_first 0xCB 2 rfl rfl rfl (by decide) (by decide)
theorem bit3C : Statement .bit3C := of_first 0xCB 2 rfl rfl rfl (by decide) (by decide)
theorem bit3D : Statement .bit3D := of_first 0xCB 2 rfl rfl rfl (by decide) (by decide)
theorem bit3E : Statement .bit3E := of_first 0xCB 2 rfl rfl rfl (by decide) (by decide)
theorem bit3H : Statement .bit3H := of_first 0xCB 2 rfl rfl rfl (by decide) (by decide)
theorem bit3L : Statement .bit3L := of_first 0xCB 2 rfl rfl rfl (by decide) (by decide)
theorem bit3AtHl : Statement .bit3AtHl := of_first 0xCB 2 rfl rfl rfl (by decide) (by decide)
theorem bit3A : Statement .bit3A := of_first 0xCB 2 rfl rfl rfl (by decide) (by decide)
theorem bit4B : Statement .bit4B := of_first 0xCB 2 rfl rfl rfl (by decide) (by decide)
theorem bit4C : Statement .bit4C := of_first 0xCB 2 rfl rfl rfl (by decide) (by decide)
theorem bit4D : Statement .bit4D := of_first 0xCB 2 rfl rfl rfl (by decide) (by decide)
theorem bit4E : Statement .bit4E := of_first 0xCB 2 rfl rfl rfl (by decide) (by decide)
theorem bit4H : Statement .bit4H := of_first 0xCB 2 rfl rfl rfl (by decide) (by decide)
theorem bit4L : Statement .bit4L := of_first 0xCB 2 rfl rfl rfl (by decide) (by decide)
theorem bit4AtHl : Statement .bit4AtHl := of_first 0xCB 2 rfl rfl rfl (by decide) (by decide)
theorem bit4A : Statement .bit4A := of_first 0xCB 2 rfl rfl rfl (by decide) (by decide)
theorem bit5B : Statement .bit5B := of_first 0xCB 2 rfl rfl rfl (by decide) (by decide)
theorem bit5C : Statement .bit5C := of_first 0xCB 2 rfl rfl rfl (by decide) (by decide)
theorem bit5D : Statement .bit5D := of_first 0xCB 2 rfl rfl rfl (by decide) (by decide)
theorem bit5E : Statement .bit5E := of_first 0xCB 2 rfl rfl rfl (by decide) (by decide)
theorem bit5H : Statement .bit5H := of_first 0xCB 2 rfl rfl rfl (by decide) (by decide)
theorem bit5L : Statement .bit5L := of_first 0xCB 2 rfl rfl rfl (by decide) (by decide)
theorem bit5AtHl : Statement .bit5AtHl := of_first 0xCB 2 rfl rfl rfl (by decide) (by decide)
theorem bit5A : Statement .bit5A := of_first 0xCB 2 rfl rfl rfl (by decide) (by decide)
theorem bit6B : Statement .bit6B := of_first 0xCB 2 rfl rfl rfl (by decide) (by decide)
theorem bit6C : Statement .bit6C := of_first 0xCB 2 rfl rfl rfl (by decide) (by decide)
theorem bit6D : Statement .bit6D := of_first 0xCB 2 rfl rfl rfl (by decide) (by decide)
theorem bit6E : Statement .bit6E := of_first 0xCB 2 rfl rfl rfl (by decide) (by decide)
theorem bit6H : Statement .bit6H := of_first 0xCB 2 rfl rfl rfl (by decide) (by decide)
theorem bit6L : Statement .bit6L := of_first 0xCB 2 rfl rfl rfl (by decide) (by decide)
theorem bit6AtHl : Statement .bit6AtHl := of_first 0xCB 2 rfl rfl rfl (by decide) (by decide)
theorem bit6A : Statement .bit6A := of_first 0xCB 2 rfl rfl rfl (by decide) (by decide)
theorem bit7B : Statement .bit7B := of_first 0xCB 2 rfl rfl rfl (by decide) (by decide)
theorem bit7C : Statement .bit7C := of_first 0xCB 2 rfl rfl rfl (by decide) (by decide)
theorem bit7D : Statement .bit7D := of_first 0xCB 2 rfl rfl rfl (by decide) (by decide)
theorem bit7E : Statement .bit7E := of_first 0xCB 2 rfl rfl rfl (by decide) (by decide)
theorem bit7H : Statement .bit7H := of_first 0xCB 2 rfl rfl rfl (by decide) (by decide)
theorem bit7L : Statement .bit7L := of_first 0xCB 2 rfl rfl rfl (by decide) (by decide)
theorem bit7AtHl : Statement .bit7AtHl := of_first 0xCB 2 rfl rfl rfl (by decide) (by decide)
theorem bit7A : Statement .bit7A := of_first 0xCB 2 rfl rfl rfl (by decide) (by decide)
theorem res0B : Statement .res0B := of_first 0xCB 2 rfl rfl rfl (by decide) (by decide)
theorem res0C : Statement .res0C := of_first 0xCB 2 rfl rfl rfl (by decide) (by decide)
theorem res0D : Statement .res0D := of_first 0xCB 2 rfl rfl rfl (by decide) (by decide)
theorem res0E : Statement .res0E := of_first 0xCB 2 rfl rfl rfl (by decide) (by decide)
theorem res0H : Statement .res0H := of_first 0xCB 2 rfl rfl rfl (by decide) (by decide)
theorem res0L : Statement .res0L := of_first 0xCB 2 rfl rfl rfl (by decide) (by decide)
theorem res0AtHl : Statement .res0AtHl := of_first 0xCB 2 rfl rfl rfl (by decide) (by decide)
theorem res0A : Statement .res0A := of_first 0xCB 2 rfl rfl rfl (by decide) (by decide)
theorem res1B : Statement .res1B := of_first 0xCB 2 rfl rfl rfl (by decide) (by decide)
theorem res1C : Statement .res1C := of_first 0xCB 2 rfl rfl rfl (by decide) (by decide)
theorem res1D : Statement .res1D := of_first 0xCB 2 rfl rfl rfl (by decide) (by decide)
theorem res1E : Statement .res1E := of_first 0xCB 2 rfl rfl rfl (by decide) (by decide)
theorem res1H : Statement .res1H := of_first 0xCB 2 rfl rfl rfl (by decide) (by decide)
theorem res1L : Statement .res1L := of_first 0xCB 2 rfl rfl rfl (by decide) (by decide)
theorem res1AtHl : Statement .res1AtHl := of_first 0xCB 2 rfl rfl rfl (by decide) (by decide)
theorem res1A : Statement .res1A := of_first 0xCB 2 rfl rfl rfl (by decide) (by decide)
theorem res2B : Statement .res2B := of_first 0xCB 2 rfl rfl rfl (by decide) (by decide)
theorem res2C : Statement .res2C := of_first 0xCB 2 rfl rfl rfl (by decide) (by decide)
theorem res2D : Statement .res2D := of_first 0xCB 2 rfl rfl rfl (by decide) (by decide)
theorem res2E : Statement .res2E := of_first 0xCB 2 rfl rfl rfl (by decide) (by decide)
theorem res2H : Statement .res2H := of_first 0xCB 2 rfl rfl rfl (by decide) (by decide)
theorem res2L : Statement .res2L := of_first 0xCB 2 rfl rfl rfl (by decide) (by decide)
theorem res2AtHl : Statement .res2AtHl := of_first 0xCB 2 rfl rfl rfl (by decide) (by decide)
theorem res2A : Statement .res2A := of_first 0xCB 2 rfl rfl rfl (by decide) (by decide)
theorem res3B : Statement .res3B := of_first 0xCB 2 rfl rfl rfl (by decide) (by decide)
theorem res3C : Statement .res3C := of_first 0xCB 2 rfl rfl rfl (by decide) (by decide)
theorem res3D : Statement .res3D := of_first 0xCB 2 rfl rfl rfl (by decide) (by decide)
theorem res3E : Statement .res3E := of_first 0xCB 2 rfl rfl rfl (by decide) (by decide)
theorem res3H : Statement .res3H := of_first 0xCB 2 rfl rfl rfl (by decide) (by decide)
theorem res3L : Statement .res3L := of_first 0xCB 2 rfl rfl rfl (by decide) (by decide)
theorem res3AtHl : Statement .res3AtHl := of_first 0xCB 2 rfl rfl rfl (by decide) (by decide)
theorem res3A : Statement .res3A := of_first 0xCB 2 rfl rfl rfl (by decide) (by decide)
theorem res4B : Statement .res4B := of_first 0xCB 2 rfl rfl rfl (by decide) (by decide)
theorem res4C : Statement .res4C := of_first 0xCB 2 rfl rfl rfl (by decide) (by decide)
theorem res4D : Statement .res4D := of_first 0xCB 2 rfl rfl rfl (by decide) (by decide)
theorem res4E : Statement .res4E := of_first 0xCB 2 rfl rfl rfl (by decide) (by decide)
theorem res4H : Statement .res4H := of_first 0xCB 2 rfl rfl rfl (by decide) (by decide)
theorem res4L : Statement .res4L := of_first 0xCB 2 rfl rfl rfl (by decide) (by decide)
theorem res4AtHl : Statement .res4AtHl := of_first 0xCB 2 rfl rfl rfl (by decide) (by decide)
theorem res4A : Statement .res4A := of_first 0xCB 2 rfl rfl rfl (by decide) (by decide)
theorem res5B : Statement .res5B := of_first 0xCB 2 rfl rfl rfl (by decide) (by decide)
theorem res5C : Statement .res5C := of_first 0xCB 2 rfl rfl rfl (by decide) (by decide)
theorem res5D : Statement .res5D := of_first 0xCB 2 rfl rfl rfl (by decide) (by decide)
theorem res5E : Statement .res5E := of_first 0xCB 2 rfl rfl rfl (by decide) (by decide)
theorem res5H : Statement .res5H := of_first 0xCB 2 rfl rfl rfl (by decide) (by decide)
theorem res5L : Statement .res5L := of_first 0xCB 2 rfl rfl rfl (by decide) (by decide)
theorem res5AtHl : Statement .res5AtHl := of_first 0xCB 2 rfl rfl rfl (by decide) (by decide)
theorem res5A : Statement .res5A := of_first 0xCB 2 rfl rfl rfl (by decide) (by decide)
theorem res6B : Statement .res6B := of_first 0xCB 2 rfl rfl rfl (by decide) (by decide)
theorem res6C : Statement .res6C := of_first 0xCB 2 rfl rfl rfl (by decide) (by decide)
theorem res6D : Statement .res6D := of_first 0xCB 2 rfl rfl rfl (by decide) (by decide)
theorem res6E : Statement .res6E := of_first 0xCB 2 rfl rfl rfl (by decide) (by decide)
theorem res6H : Statement .res6H := of_first 0xCB 2 rfl rfl rfl (by decide) (by decide)
theorem res6L : Statement .res6L := of_first 0xCB 2 rfl rfl rfl (by decide) (by decide)
theorem res6AtHl : Statement .res6AtHl := of_first 0xCB 2 rfl rfl rfl (by decide) (by decide)
theorem res6A : Statement .res6A := of_first 0xCB 2 rfl rfl rfl (by decide) (by decide)
theorem res7B : Statement .res7B := of_first 0xCB 2 rfl rfl rfl (by decide) (by decide)
theorem res7C : Statement .res7C := of_first 0xCB 2 rfl rfl rfl (by decide) (by decide)
theorem res7D : Statement .res7D := of_first 0xCB 2 rfl rfl rfl (by decide) (by decide)
theorem res7E : Statement .res7E := of_first 0xCB 2 rfl rfl rfl (by decide) (by decide)
theorem res7H : Statement .res7H := of_first 0xCB 2 rfl rfl rfl (by decide) (by decide)
theorem res7L : Statement .res7L := of_first 0xCB 2 rfl rfl rfl (by decide) (by decide)
theorem res7AtHl : Statement .res7AtHl := of_first 0xCB 2 rfl rfl rfl (by decide) (by decide)
theorem res7A : Statement .res7A := of_first 0xCB 2 rfl rfl rfl (by decide) (by decide)
theorem set0B : Statement .set0B := of_first 0xCB 2 rfl rfl rfl (by decide) (by decide)
theorem set0C : Statement .set0C := of_first 0xCB 2 rfl rfl rfl (by decide) (by decide)
theorem set0D : Statement .set0D := of_first 0xCB 2 rfl rfl rfl (by decide) (by decide)
theorem set0E : Statement .set0E := of_first 0xCB 2 rfl rfl rfl (by decide) (by decide)
theorem set0H : Statement .set0H := of_first 0xCB 2 rfl rfl rfl (by decide) (by decide)
theorem set0L : Statement .set0L := of_first 0xCB 2 rfl rfl rfl (by decide) (by decide)
theorem set0AtHl : Statement .set0AtHl := of_first 0xCB 2 rfl rfl rfl (by decide) (by decide)
theorem set0A : Statement .set0A := of_first 0xCB 2 rfl rfl rfl (by decide) (by decide)
theorem set1B : Statement .set1B := of_first 0xCB 2 rfl rfl rfl (by decide) (by decide)
theorem set1C : Statement .set1C := of_first 0xCB 2 rfl rfl rfl (by decide) (by decide)
theorem set1D : Statement .set1D := of_first 0xCB 2 rfl rfl rfl (by decide) (by decide)
theorem set1E : Statement .set1E := of_first 0xCB 2 rfl rfl rfl (by decide) (by decide)
theorem set1H : Statement .set1H := of_first 0xCB 2 rfl rfl rfl (by decide) (by decide)
theorem set1L : Statement .set1L := of_first 0xCB 2 rfl rfl rfl (by decide) (by decide)
theorem set1AtHl : Statement .set1AtHl := of_first 0xCB 2 rfl rfl rfl (by decide) (by decide)
theorem set1A : Statement .set1A := of_first 0xCB 2 rfl rfl rfl (by decide) (by decide)
theorem set2B : Statement .set2B := of_first 0xCB 2 rfl rfl rfl (by decide) (by decide)
theorem set2C : Statement .set2C := of_first 0xCB 2 rfl rfl rfl (by decide) (by decide)
theorem set2D : Statement .set2D := of_first 0xCB 2 rfl rfl rfl (by decide) (by decide)
theorem set2E : Statement .set2E := of_first 0xCB 2 rfl rfl rfl (by decide) (by decide)
theorem set2H : Statement .set2H := of_first 0xCB 2 rfl rfl rfl (by decide) (by decide)
theorem set2L : Statement .set2L := of_first 0xCB 2 rfl rfl rfl (by decide) (by decide)
theorem set2AtHl : Statement .set2AtHl := of_first 0xCB 2 rfl rfl rfl (by decide) (by decide)
theorem set2A : Statement .set2A := of_first 0xCB 2 rfl rfl rfl (by decide) (by decide)
theorem set3B : Statement .set3B := of_first 0xCB 2 rfl rfl rfl (by decide) (by decide)
theorem set3C : Statement .set3C := of_first 0xCB 2 rfl rfl rfl (by decide) (by decide)
theorem set3D : Statement .set3D := of_first 0xCB 2 rfl rfl rfl (by decide) (by decide)
theorem set3E : Statement .set3E := of_first 0xCB 2 rfl rfl rfl (by decide) (by decide)
theorem set3H : Statement .set3H := of_first 0xCB 2 rfl rfl rfl (by decide) (by decide)
theorem set3L : Statement .set3L := of_first 0xCB 2 rfl rfl rfl (by decide) (by decide)
theorem set3AtHl : Statement .set3AtHl := of_first 0xCB 2 rfl rfl rfl (by decide) (by decide)
theorem set3A : Statement .set3A := of_first 0xCB 2 rfl rfl rfl (by decide) (by decide)
theorem set4B : Statement .set4B := of_first 0xCB 2 rfl rfl rfl (by decide) (by decide)
theorem set4C : Statement .set4C := of_first 0xCB 2 rfl rfl rfl (by decide) (by decide)
theorem set4D : Statement .set4D := of_first 0xCB 2 rfl rfl rfl (by decide) (by decide)
theorem set4E : Statement .set4E := of_first 0xCB 2 rfl rfl rfl (by decide) (by decide)
theorem set4H : Statement .set4H := of_first 0xCB 2 rfl rfl rfl (by decide) (by decide)
theorem set4L : Statement .set4L := of_first 0xCB 2 rfl rfl rfl (by decide) (by decide)
theorem set4AtHl : Statement .set4AtHl := of_first 0xCB 2 rfl rfl rfl (by decide) (by decide)
theorem set4A : Statement .set4A := of_first 0xCB 2 rfl rfl rfl (by decide) (by decide)
theorem set5B : Statement .set5B := of_first 0xCB 2 rfl rfl rfl (by decide) (by decide)
theorem set5C : Statement .set5C := of_first 0xCB 2 rfl rfl rfl (by decide) (by decide)
theorem set5D : Statement .set5D := of_first 0xCB 2 rfl rfl rfl (by decide) (by decide)
theorem set5E : Statement .set5E := of_first 0xCB 2 rfl rfl rfl (by decide) (by decide)
theorem set5H : Statement .set5H := of_first 0xCB 2 rfl rfl rfl (by decide) (by decide)
theorem set5L : Statement .set5L := of_first 0xCB 2 rfl rfl rfl (by decide) (by decide)
theorem set5AtHl : Statement .set5AtHl := of_first 0xCB 2 rfl rfl rfl (by decide) (by decide)
theorem set5A : Statement .set5A := of_first 0xCB 2 rfl rfl rfl (by decide) (by decide)
theorem set6B : Statement .set6B := of_first 0xCB 2 rfl rfl rfl (by decide) (by decide)
theorem set6C : Statement .set6C := of_first 0xCB 2 rfl rfl rfl (by decide) (by decide)
theorem set6D : Statement .set6D := of_first 0xCB 2 rfl rfl rfl (by decide) (by decide)
theorem set6E : Statement .set6E := of_first 0xCB 2 rfl rfl rfl (by decide) (by decide)
theorem set6H : Statement .set6H := of_first 0xCB 2 rfl rfl rfl (by decide) (by decide)
theorem set6L : Statement .set6L := of_first 0xCB 2 rfl rfl rfl (by decide) (by decide)
theorem set6AtHl : Statement .set6AtHl := of_first 0xCB 2 rfl rfl rfl (by decide) (by decide)
theorem set6A : Statement .set6A := of_first 0xCB 2 rfl rfl rfl (by decide) (by decide)
theorem set7B : Statement .set7B := of_first 0xCB 2 rfl rfl rfl (by decide) (by decide)
theorem set7C : Statement .set7C := of_first 0xCB 2 rfl rfl rfl (by decide) (by decide)
theorem set7D : Statement .set7D := of_first 0xCB 2 rfl rfl rfl (by decide) (by decide)
theorem set7E : Statement .set7E := of_first 0xCB 2 rfl rfl rfl (by decide) (by decide)
theorem set7H : Statement .set7H := of_first 0xCB 2 rfl rfl rfl (by decide) (by decide)
theorem set7L : Statement .set7L := of_first 0xCB 2 rfl rfl rfl (by decide) (by decide)
theorem set7AtHl : Statement .set7AtHl := of_first 0xCB 2 rfl rfl rfl (by decide) (by decide)
theorem set7A : Statement .set7A := of_first 0xCB 2 rfl rfl rfl (by decide) (by decide)

end Sys2Proof.Laws.OpcodeLength
end

