-- ==== Sys2Proof/Laws/Step.lean ====
section
/-! SUPPORT. Everything a step can do, said once: `step_cases`. -/

namespace Sys2Proof.Machine

/-- The state a step works on after the wake-up of STOP and HALT (spec/60_exceptions.md R291): awake, all else as it was. -/
def awake (s : State) : State := { s with stopped := false, halted := false }

/-- The ways of a boundary (R291), for a state with no fault: what each answers, and the condition under which it is taken. -/
theorem atBoundary_cases (s : State) :
    (∃ info, s.fault = some info ∧ atBoundary s = .halt (.illegalInstruction info)) ∨
    (s.fault = none ∧ s.stopped = true ∧ stopWake s = false ∧ atBoundary s = .halt .stuck) ∨
    (s.fault = none ∧ s.halted = true ∧ pending s = false ∧ atBoundary s = .idle { s with stopped := false }) ∨
    (s.fault = none ∧ s.intr.ime = true ∧ pending s = true ∧ atBoundary s = .dispatch (takeInterrupt (awake s))) ∨
    (s.fault = none ∧ (s.intr.ime = false ∨ pending s = false) ∧ (s.halted = true → pending s = true) ∧
      atBoundary s = .fetch (endEiDelay (awake s))) := by
  generalize hw : stopWake s = w
  obtain ⟨regs, intr, halted, stopped, latch, fault, ctl, timer, ppu, apu, mbc, ram, waveRam, extRam, rom, bootRom, overlay,
    params, requests, freeIdx, own⟩ := s
  cases fault with
  | some info => exact .inl ⟨info, rfl, rfl⟩
  | none =>
    right
    unfold atBoundary
    dsimp only
    rw [hw]
    unfold haltCheck interruptCheck awake pending
    dsimp only
    cases stopped <;> cases halted <;> cases intr.ime <;> cases hp : (intr.enabledRequests != 0) <;> cases w <;> simp

/-- The instruction's part of a step that runs one: what `exec` answers and what it costs. -/
theorem runInstr_next (s t : State) (h : runInstr s = .next t) :
    isIllegal (opcodeAt s) = false ∧
      ∃ u, exec (instrAt s) (afterFetch s) = .next u ∧ t = platformTick u (instrCycles (instrAt s) (afterFetch s)) := by
  unfold runInstr at h
  split at h
  · cases h
  · next hi =>
    refine ⟨by simpa using hi, ?_⟩
    cases he : exec (instrAt s) (afterFetch s) with
    | next u => rw [he] at h; cases h; exact ⟨u, rfl, rfl⟩
    | fault f => rw [he] at h; cases h
    | refused f => rw [he] at h; cases h

/-- EVERYTHING A STEP CAN DO when it answers a next state (R291, R298): idle in HALT, dispatch, or run an instruction; and then
the devices advance. -/
theorem step_cases (s t : State) (h : step s = .next t) :
    s.fault = none ∧
    ((s.halted = true ∧ pending s = false ∧ t = platformTick { s with stopped := false } idleCycles) ∨
     (s.intr.ime = true ∧ pending s = true ∧ t = platformTick (takeInterrupt (awake s)) dispatchCycles) ∨
     ((s.intr.ime = false ∨ pending s = false) ∧ (s.halted = true → pending s = true) ∧
       ∃ i u, isIllegal (opcodeAt s) = false ∧ i = instrAt (endEiDelay (awake s)) ∧
         exec i (afterFetch (endEiDelay (awake s))) = .next u ∧
         t = platformTick u (instrCycles i (afterFetch (endEiDelay (awake s)))))) := by
  unfold step at h
  rcases atBoundary_cases s with ⟨info, hf, hb⟩ | ⟨hf, _, _, hb⟩ | ⟨hf, h1, h2, hb⟩ | ⟨hf, h1, h2, hb⟩ | ⟨hf, h1, h2, hb⟩ <;>
    rw [hb] at h
  · cases h
  · cases h
  · cases h
    exact ⟨hf, .inl ⟨h1, h2, rfl⟩⟩
  · cases h
    exact ⟨hf, .inr (.inl ⟨h1, h2, rfl⟩)⟩
  · obtain ⟨hi, u, hu, ht⟩ := runInstr_next _ _ h
    refine ⟨hf, .inr (.inr ⟨h1, h2, _, u, ?_, rfl, hu, ht⟩)⟩
    have : opcodeAt (endEiDelay (awake s)) = opcodeAt s := by
      unfold endEiDelay
      split <;> rfl
    rw [← this]
    exact hi

end Sys2Proof.Machine
end

