-- ==== Sys2Proof/Tests/Slice0.lean ====
section
/-! SUPPORT. Tests of one step or less, with words from the opcode maps of spec/30_encoding.md and values from
spec/95_test_vectors.md, and a witness for every obligation that has hypotheses. -/

namespace Sys2Proof.Tests

open Sys2Proof Sys2Proof.Machine

/-! Every cell of the opcode maps (R84, R85), each word written bit by bit; the immediate bytes are 0x34, then 0x12. -/

/-- Row 0x of R84. -/
theorem test_decode_row0 : ([
    0b00000000, 0b00000001, 0b00000010, 0b00000011, 0b00000100, 0b00000101, 0b00000110, 0b00000111, 0b00001000,
    0b00001001, 0b00001010, 0b00001011, 0b00001100, 0b00001101, 0b00001110, 0b00001111] : List Byte).map (fun op => decodeBytes op 0x34 0x12) = [
    .nop, .ldBcNn 0x1234, .ldAtBcA, .incBc, .incB, .decB, .ldBN 0x34, .rlca, .ldAtNnSp 0x1234, .addHlBc, .ldAAtBc,
    .decBc, .incC, .decC, .ldCN 0x34, .rrca] := by decide

/-- Row 1x of R84. -/
theorem test_decode_row1 : ([
    0b00010000, 0b00010001, 0b00010010, 0b00010011, 0b00010100, 0b00010101, 0b00010110, 0b00010111, 0b00011000,
    0b00011001, 0b00011010, 0b00011011, 0b00011100, 0b00011101, 0b00011110, 0b00011111] : List Byte).map (fun op => decodeBytes op 0x34 0x12) = [
    .stop 0x34, .ldDeNn 0x1234, .ldAtDeA, .incDe, .incD, .decD, .ldDN 0x34, .rla, .jrE 0x34, .addHlDe, .ldAAtDe,
    .decDe, .incE, .decE, .ldEN 0x34, .rra] := by decide

/-- Row 2x of R84. -/
theorem test_decode_row2 : ([
    0b00100000, 0b00100001, 0b00100010, 0b00100011, 0b00100100, 0b00100101, 0b00100110, 0b00100111, 0b00101000,
    0b00101001, 0b00101010, 0b00101011, 0b00101100, 0b00101101, 0b00101110, 0b00101111] : List Byte).map (fun op => decodeBytes op 0x34 0x12) = [
    .jrNzE 0x34, .ldHlNn 0x1234, .ldAtHlIncA, .incHl, .incH, .decH, .ldHN 0x34, .daa, .jrZE 0x34, .addHlHl,
    .ldAAtHlInc, .decHl, .incL, .decL, .ldLN 0x34, .cpl] := by decide

/-- Row 3x of R84. -/
theorem test_decode_row3 : ([
    0b00110000, 0b00110001, 0b00110010, 0b00110011, 0b00110100, 0b00110101, 0b00110110, 0b00110111, 0b00111000,
    0b00111001, 0b00111010, 0b00111011, 0b00111100, 0b00111101, 0b00111110, 0b00111111] : List Byte).map (fun op => decodeBytes op 0x34 0x12) = [
    .jrNcE 0x34, .ldSpNn 0x1234, .ldAtHlDecA, .incSp, .incAtHl, .decAtHl, .ldAtHlN 0x34, .scf, .jrCE 0x34, .addHlSp,
    .ldAAtHlDec, .decSp, .incA, .decA, .ldAN 0x34, .ccf] := by decide

/-- Row 4x of R84. -/
theorem test_decode_row4 : ([
    0b01000000, 0b01000001, 0b01000010, 0b01000011, 0b01000100, 0b01000101, 0b01000110, 0b01000111, 0b01001000,
    0b01001001, 0b01001010, 0b01001011, 0b01001100, 0b01001101, 0b01001110, 0b01001111] : List Byte).map (fun op => decodeBytes op 0x34 0x12) = [
    .ldBB, .ldBC, .ldBD, .ldBE, .ldBH, .ldBL, .ldBAtHl, .ldBA, .ldCB, .ldCC, .ldCD, .ldCE, .ldCH, .ldCL, .ldCAtHl,
    .ldCA] := by decide

/-- Row 5x of R84. -/
theorem test_decode_row5 : ([
    0b01010000, 0b01010001, 0b01010010, 0b01010011, 0b01010100, 0b01010101, 0b01010110, 0b01010111, 0b01011000,
    0b01011001, 0b01011010, 0b01011011, 0b01011100, 0b01011101, 0b01011110, 0b01011111] : List Byte).map (fun op => decodeBytes op 0x34 0x12) = [
    .ldDB, .ldDC, .ldDD, .ldDE, .ldDH, .ldDL, .ldDAtHl, .ldDA, .ldEB, .ldEC, .ldED, .ldEE, .ldEH, .ldEL, .ldEAtHl,
    .ldEA] := by decide

/-- Row 6x of R84. -/
theorem test_decode_row6 : ([
    0b01100000, 0b01100001, 0b01100010, 0b01100011, 0b01100100, 0b01100101, 0b01100110, 0b01100111, 0b01101000,
    0b01101001, 0b01101010, 0b01101011, 0b01101100, 0b01101101, 0b01101110, 0b01101111] : List Byte).map (fun op => decodeBytes op 0x34 0x12) = [
    .ldHB, .ldHC, .ldHD, .ldHE, .ldHH, .ldHL, .ldHAtHl, .ldHA, .ldLB, .ldLC, .ldLD, .ldLE, .ldLH, .ldLL, .ldLAtHl,
    .ldLA] := by decide

/-- Row 7x of R84. -/
theorem test_decode_row7 : ([
    0b01110000, 0b01110001, 0b01110010, 0b01110011, 0b01110100, 0b01110101, 0b01110110, 0b01110111, 0b01111000,
    0b01111001, 0b01111010, 0b01111011, 0b01111100, 0b01111101, 0b01111110, 0b01111111] : List Byte).map (fun op => decodeBytes op 0x34 0x12) = [
    .ldAtHlB, .ldAtHlC, .ldAtHlD, .ldAtHlE, .ldAtHlH, .ldAtHlL, .halt, .ldAtHlA, .ldAB, .ldAC, .ldAD, .ldAE, .ldAH,
    .ldAL, .ldAAtHl, .ldAA] := by decide

/-- Row 8x of R84. -/
theorem test_decode_row8 : ([
    0b10000000, 0b10000001, 0b10000010, 0b10000011, 0b10000100, 0b10000101, 0b10000110, 0b10000111, 0b10001000,
    0b10001001, 0b10001010, 0b10001011, 0b10001100, 0b10001101, 0b10001110, 0b10001111] : List Byte).map (fun op => decodeBytes op 0x34 0x12) = [
    .addAB, .addAC, .addAD, .addAE, .addAH, .addAL, .addAAtHl, .addAA, .adcAB, .adcAC, .adcAD, .adcAE, .adcAH,
    .adcAL, .adcAAtHl, .adcAA] := by decide

/-- Row 9x of R84. -/
theorem test_decode_row9 : ([
    0b10010000, 0b10010001, 0b10010010, 0b10010011, 0b10010100, 0b10010101, 0b10010110, 0b10010111, 0b10011000,
    0b10011001, 0b10011010, 0b10011011, 0b10011100, 0b10011101, 0b10011110, 0b10011111] : List Byte).map (fun op => decodeBytes op 0x34 0x12) = [
    .subB, .subC, .subD, .subE, .subH, .subL, .subAtHl, .subA, .sbcAB, .sbcAC, .sbcAD, .sbcAE, .sbcAH, .sbcAL,
    .sbcAAtHl, .sbcAA] := by decide

/-- Row Ax of R84. -/
theorem test_decode_rowA : ([
    0b10100000, 0b10100001, 0b10100010, 0b10100011, 0b10100100, 0b10100101, 0b10100110, 0b10100111, 0b10101000,
    0b10101001, 0b10101010, 0b10101011, 0b10101100, 0b10101101, 0b10101110, 0b10101111] : List Byte).map (fun op => decodeBytes op 0x34 0x12) = [
    .andB, .andC, .andD, .andE, .andH, .andL, .andAtHl, .andA, .xorB, .xorC, .xorD, .xorE, .xorH, .xorL, .xorAtHl,
    .xorA] := by decide

/-- Row Bx of R84. -/
theorem test_decode_rowB : ([
    0b10110000, 0b10110001, 0b10110010, 0b10110011, 0b10110100, 0b10110101, 0b10110110, 0b10110111, 0b10111000,
    0b10111001, 0b10111010, 0b10111011, 0b10111100, 0b10111101, 0b10111110, 0b10111111] : List Byte).map (fun op => decodeBytes op 0x34 0x12) = [
    .orB, .orC, .orD, .orE, .orH, .orL, .orAtHl, .orA, .cpB, .cpC, .cpD, .cpE, .cpH, .cpL, .cpAtHl, .cpA] := by decide

/-- Row Cx of R84. -/
theorem test_decode_rowC : ([
    0b11000000, 0b11000001, 0b11000010, 0b11000011, 0b11000100, 0b11000101, 0b11000110, 0b11000111, 0b11001000,
    0b11001001, 0b11001010, 0b11001100, 0b11001101, 0b11001110, 0b11001111] : List Byte).map (fun op => decodeBytes op 0x34 0x12) = [
    .retNz, .popBc, .jpNzNn 0x1234, .jpNn 0x1234, .callNzNn 0x1234, .pushBc, .addAN 0x34, .rst00, .retZ, .ret,
    .jpZNn 0x1234, .callZNn 0x1234, .callNn 0x1234, .adcAN 0x34, .rst08] := by decide

/-- Row Dx of R84. -/
theorem test_decode_rowD : ([
    0b11010000, 0b11010001, 0b11010010, 0b11010011, 0b11010100, 0b11010101, 0b11010110, 0b11010111, 0b11011000,
    0b11011001, 0b11011010, 0b11011011, 0b11011100, 0b11011101, 0b11011110, 0b11011111] : List Byte).map (fun op => decodeBytes op 0x34 0x12) = [
    .retNc, .popDe, .jpNcNn 0x1234, .illegalD3, .callNcNn 0x1234, .pushDe, .subN 0x34, .rst10, .retC, .reti,
    .jpCNn 0x1234, .illegalDB, .callCNn 0x1234, .illegalDD, .sbcAN 0x34, .rst18] := by decide

/-- Row Ex of R84. -/
theorem test_decode_rowE : ([
    0b11100000, 0b11100001, 0b11100010, 0b11100011, 0b11100100, 0b11100101, 0b11100110, 0b11100111, 0b11101000,
    0b11101001, 0b11101010, 0b11101011, 0b11101100, 0b11101101, 0b11101110, 0b11101111] : List Byte).map (fun op => decodeBytes op 0x34 0x12) = [
    .ldhAtNA 0x34, .popHl, .ldAtCA, .illegalE3, .illegalE4, .pushHl, .andN 0x34, .rst20, .addSpE 0x34, .jpHl,
    .ldAtNnA 0x1234, .illegalEB, .illegalEC, .illegalED, .xorN 0x34, .rst28] := by decide

/-- Row Fx of R84. -/
theorem test_decode_rowF : ([
    0b11110000, 0b11110001, 0b11110010, 0b11110011, 0b11110100, 0b11110101, 0b11110110, 0b11110111, 0b11111000,
    0b11111001, 0b11111010, 0b11111011, 0b11111100, 0b11111101, 0b11111110, 0b11111111] : List Byte).map (fun op => decodeBytes op 0x34 0x12) = [
    .ldhAAtN 0x34, .popAf, .ldAAtC, .di, .illegalF4, .pushAf, .orN 0x34, .rst30, .ldHlSpE 0x34, .ldSpHl,
    .ldAAtNn 0x1234, .ei, .illegalFC, .illegalFD, .cpN 0x34, .rst38] := by decide

/-- Row 0x of R85, after the prefix. -/
theorem test_decode_cb0 : ([
    0b00000000, 0b00000001, 0b00000010, 0b00000011, 0b00000100, 0b00000101, 0b00000110, 0b00000111, 0b00001000,
    0b00001001, 0b00001010, 0b00001011, 0b00001100, 0b00001101, 0b00001110, 0b00001111] : List Byte).map (fun op => decodeBytes 0b11001011 op 0) = [
    .rlcB, .rlcC, .rlcD, .rlcE, .rlcH, .rlcL, .rlcAtHl, .rlcA, .rrcB, .rrcC, .rrcD, .rrcE, .rrcH, .rrcL, .rrcAtHl,
    .rrcA] := by decide

/-- Row 1x of R85, after the prefix. -/
theorem test_decode_cb1 : ([
    0b00010000, 0b00010001, 0b00010010, 0b00010011, 0b00010100, 0b00010101, 0b00010110, 0b00010111, 0b00011000,
    0b00011001, 0b00011010, 0b00011011, 0b00011100, 0b00011101, 0b00011110, 0b00011111] : List Byte).map (fun op => decodeBytes 0b11001011 op 0) = [
    .rlB, .rlC, .rlD, .rlE, .rlH, .rlL, .rlAtHl, .rlA, .rrB, .rrC, .rrD, .rrE, .rrH, .rrL, .rrAtHl, .rrA] := by decide

/-- Row 2x of R85, after the prefix. -/
theorem test_decode_cb2 : ([
    0b00100000, 0b00100001, 0b00100010, 0b00100011, 0b00100100, 0b00100101, 0b00100110, 0b00100111, 0b00101000,
    0b00101001, 0b00101010, 0b00101011, 0b00101100, 0b00101101, 0b00101110, 0b00101111] : List Byte).map (fun op => decodeBytes 0b11001011 op 0) = [
    .slaB, .slaC, .slaD, .slaE, .slaH, .slaL, .slaAtHl, .slaA, .sraB, .sraC, .sraD, .sraE, .sraH, .sraL, .sraAtHl,
    .sraA] := by decide

/-- Row 3x of R85, after the prefix. -/
theorem test_decode_cb3 : ([
    0b00110000, 0b00110001, 0b00110010, 0b00110011, 0b00110100, 0b00110101, 0b00110110, 0b00110111, 0b00111000,
    0b00111001, 0b00111010, 0b00111011, 0b00111100, 0b00111101, 0b00111110, 0b00111111] : List Byte).map (fun op => decodeBytes 0b11001011 op 0) = [
    .swapB, .swapC, .swapD, .swapE, .swapH, .swapL, .swapAtHl, .swapA, .srlB, .srlC, .srlD, .srlE, .srlH, .srlL,
    .srlAtHl, .srlA] := by decide

/-- Row 4x of R85, after the prefix. -/
theorem test_decode_cb4 : ([
    0b01000000, 0b01000001, 0b01000010, 0b01000011, 0b01000100, 0b01000101, 0b01000110, 0b01000111, 0b01001000,
    0b01001001, 0b01001010, 0b01001011, 0b01001100, 0b01001101, 0b01001110, 0b01001111] : List Byte).map (fun op => decodeBytes 0b11001011 op 0) = [
    .bit0B, .bit0C, .bit0D, .bit0E, .bit0H, .bit0L, .bit0AtHl, .bit0A, .bit1B, .bit1C, .bit1D, .bit1E, .bit1H,
    .bit1L, .bit1AtHl, .bit1A] := by decide

/-- Row 5x of R85, after the prefix. -/
theorem test_decode_cb5 : ([
    0b01010000, 0b01010001, 0b01010010, 0b01010011, 0b01010100, 0b01010101, 0b01010110, 0b01010111, 0b01011000,
    0b01011001, 0b01011010, 0b01011011, 0b01011100, 0b01011101, 0b01011110, 0b01011111] : List Byte).map (fun op => decodeBytes 0b11001011 op 0) = [
    .bit2B, .bit2C, .bit2D, .bit2E, .bit2H, .bit2L, .bit2AtHl, .bit2A, .bit3B, .bit3C, .bit3D, .bit3E, .bit3H,
    .bit3L, .bit3AtHl, .bit3A] := by decide

/-- Row 6x of R85, after the prefix. -/
theorem test_decode_cb6 : ([
    0b01100000, 0b01100001, 0b01100010, 0b01100011, 0b01100100, 0b01100101, 0b01100110, 0b01100111, 0b01101000,
    0b01101001, 0b01101010, 0b01101011, 0b01101100, 0b01101101, 0b01101110, 0b01101111] : List Byte).map (fun op => decodeBytes 0b11001011 op 0) = [
    .bit4B, .bit4C, .bit4D, .bit4E, .bit4H, .bit4L, .bit4AtHl, .bit4A, .bit5B, .bit5C, .bit5D, .bit5E, .bit5H,
    .bit5L, .bit5AtHl, .bit5A] := by decide

/-- Row 7x of R85, after the prefix. -/
theorem test_decode_cb7 : ([
    0b01110000, 0b01110001, 0b01110010, 0b01110011, 0b01110100, 0b01110101, 0b01110110, 0b01110111, 0b01111000,
    0b01111001, 0b01111010, 0b01111011, 0b01111100, 0b01111101, 0b01111110, 0b01111111] : List Byte).map (fun op => decodeBytes 0b11001011 op 0) = [
    .bit6B, .bit6C, .bit6D, .bit6E, .bit6H, .bit6L, .bit6AtHl, .bit6A, .bit7B, .bit7C, .bit7D, .bit7E, .bit7H,
    .bit7L, .bit7AtHl, .bit7A] := by decide

/-- Row 8x of R85, after the prefix. -/
theorem test_decode_cb8 : ([
    0b10000000, 0b10000001, 0b10000010, 0b10000011, 0b10000100, 0b10000101, 0b10000110, 0b10000111, 0b10001000,
    0b10001001, 0b10001010, 0b10001011, 0b10001100, 0b10001101, 0b10001110, 0b10001111] : List Byte).map (fun op => decodeBytes 0b11001011 op 0) = [
    .res0B, .res0C, .res0D, .res0E, .res0H, .res0L, .res0AtHl, .res0A, .res1B, .res1C, .res1D, .res1E, .res1H,
    .res1L, .res1AtHl, .res1A] := by decide

/-- Row 9x of R85, after the prefix. -/
theorem test_decode_cb9 : ([
    0b10010000, 0b10010001, 0b10010010, 0b10010011, 0b10010100, 0b10010101, 0b10010110, 0b10010111, 0b10011000,
    0b10011001, 0b10011010, 0b10011011, 0b10011100, 0b10011101, 0b10011110, 0b10011111] : List Byte).map (fun op => decodeBytes 0b11001011 op 0) = [
    .res2B, .res2C, .res2D, .res2E, .res2H, .res2L, .res2AtHl, .res2A, .res3B, .res3C, .res3D, .res3E, .res3H,
    .res3L, .res3AtHl, .res3A] := by decide

/-- Row Ax of R85, after the prefix. -/
theorem test_decode_cbA : ([
    0b10100000, 0b10100001, 0b10100010, 0b10100011, 0b10100100, 0b10100101, 0b10100110, 0b10100111, 0b10101000,
    0b10101001, 0b10101010, 0b10101011, 0b10101100, 0b10101101, 0b10101110, 0b10101111] : List Byte).map (fun op => decodeBytes 0b11001011 op 0) = [
    .res4B, .res4C, .res4D, .res4E, .res4H, .res4L, .res4AtHl, .res4A, .res5B, .res5C, .res5D, .res5E, .res5H,
    .res5L, .res5AtHl, .res5A] := by decide

/-- Row Bx of R85, after the prefix. -/
theorem test_decode_cbB : ([
    0b10110000, 0b10110001, 0b10110010, 0b10110011, 0b10110100, 0b10110101, 0b10110110, 0b10110111, 0b10111000,
    0b10111001, 0b10111010, 0b10111011, 0b10111100, 0b10111101, 0b10111110, 0b10111111] : List Byte).map (fun op => decodeBytes 0b11001011 op 0) = [
    .res6B, .res6C, .res6D, .res6E, .res6H, .res6L, .res6AtHl, .res6A, .res7B, .res7C, .res7D, .res7E, .res7H,
    .res7L, .res7AtHl, .res7A] := by decide

/-- Row Cx of R85, after the prefix. -/
theorem test_decode_cbC : ([
    0b11000000, 0b11000001, 0b11000010, 0b11000011, 0b11000100, 0b11000101, 0b11000110, 0b11000111, 0b11001000,
    0b11001001, 0b11001010, 0b11001011, 0b11001100, 0b11001101, 0b11001110, 0b11001111] : List Byte).map (fun op => decodeBytes 0b11001011 op 0) = [
    .set0B, .set0C, .set0D, .set0E, .set0H, .set0L, .set0AtHl, .set0A, .set1B, .set1C, .set1D, .set1E, .set1H,
    .set1L, .set1AtHl, .set1A] := by decide

/-- Row Dx of R85, after the prefix. -/
theorem test_decode_cbD : ([
    0b11010000, 0b11010001, 0b11010010, 0b11010011, 0b11010100, 0b11010101, 0b11010110, 0b11010111, 0b11011000,
    0b11011001, 0b11011010, 0b11011011, 0b11011100, 0b11011101, 0b11011110, 0b11011111] : List Byte).map (fun op => decodeBytes 0b11001011 op 0) = [
    .set2B, .set2C, .set2D, .set2E, .set2H, .set2L, .set2AtHl, .set2A, .set3B, .set3C, .set3D, .set3E, .set3H,
    .set3L, .set3AtHl, .set3A] := by decide

/-- Row Ex of R85, after the prefix. -/
theorem test_decode_cbE : ([
    0b11100000, 0b11100001, 0b11100010, 0b11100011, 0b11100100, 0b11100101, 0b11100110, 0b11100111, 0b11101000,
    0b11101001, 0b11101010, 0b11101011, 0b11101100, 0b11101101, 0b11101110, 0b11101111] : List Byte).map (fun op => decodeBytes 0b11001011 op 0) = [
    .set4B, .set4C, .set4D, .set4E, .set4H, .set4L, .set4AtHl, .set4A, .set5B, .set5C, .set5D, .set5E, .set5H,
    .set5L, .set5AtHl, .set5A] := by decide

/-- Row Fx of R85, after the prefix. -/
theorem test_decode_cbF : ([
    0b11110000, 0b11110001, 0b11110010, 0b11110011, 0b11110100, 0b11110101, 0b11110110, 0b11110111, 0b11111000,
    0b11111001, 0b11111010, 0b11111011, 0b11111100, 0b11111101, 0b11111110, 0b11111111] : List Byte).map (fun op => decodeBytes 0b11001011 op 0) = [
    .set6B, .set6C, .set6D, .set6E, .set6H, .set6L, .set6AtHl, .set6A, .set7B, .set7C, .set7D, .set7E, .set7H,
    .set7L, .set7AtHl, .set7A] := by decide

/-! The checks of WellFormed: the one ill-formed term, and well-formed ones beside it. -/

theorem test_illFormed_prefix : (Instr.prefixCb 0x37).WellFormed = false := by decide

theorem test_wellFormed_rows : [Instr.swapA, .stop 0xFF, .ldBN 0xFF, .jpNn 0xFFFF, .illegalD3].map Instr.WellFormed =
    [true, true, true, true, true] := by decide

/-! Decoding lists of bytes: what stays, and what is refused. -/

theorem test_decode_empty : decode [] = .error .noBytes := by decide

theorem test_decode_truncated : decode [0xC3, 0x00] = .error (.truncated 0xC3) ∧ decode [0xCB] = .error (.truncated 0xCB) := by
  decide

theorem test_decode_rest : decode [0xFA, 0x45, 0xC3, 0x99] = .ok (.ldAAtNn 0xC345, [0x99]) := by decide

/-- A double prefix is SET 1,E (R89). -/
theorem test_decode_cbcb : decode [0xCB, 0xCB] = .ok (.set1E, []) := by decide

theorem test_encode : encode (.ldAtNnSp 0x1234) = [0x08, 0x34, 0x12] ∧ encode .bit7AtHl = [0xCB, 0x7E] ∧
    encode (.jrNcE 0xFE) = [0x30, 0xFE] ∧ encode (.stop 0x55) = [0x10, 0x55] := by decide

theorem test_decodeTableWord : decodeTableWord 8 0x41 = some .ldBC ∧ decodeTableWord 16 0x3406 = some (.ldBN 0x34) ∧
    decodeTableWord 24 0x1234C3 = some (.jpNn 0x1234) ∧ decodeTableWord 16 0xCB37 = some .swapA ∧
    decodeTableWord 8 0xD3 = some .illegalD3 := by decide

/-! Helpers: a machine after reset with some registers set, with bytes in work RAM, and what is read off a result. -/

/-- The machine after reset with its registers changed. -/
def withR (f : Regs → Regs) : State := { State.reset with regs := f State.reset.regs }

/-- The machine after reset, about to fetch at 0xC000 where the bytes stand. -/
def withCode (bytes : List Byte) : State :=
  { State.reset with ram := Memory.ofBytesFrom 0xC000 bytes, regs := { State.reset.regs with pc := 0xC000 } }

/-- One field of the next state, if there is one. -/
def field {α : Type} (f : State → α) : Result → Option α
  | .next t => some (f t)
  | _ => none

/-- A and F of the next state. -/
def accF (r : Result) : Option (Byte × Byte) := field (fun t => (t.regs.a, t.regs.f)) r

/-- B and F of the next state. -/
def bF (r : Result) : Option (Byte × Byte) := field (fun t => (t.regs.b, t.regs.f)) r

/-- HL and F of the next state. -/
def hlF (r : Result) : Option (Word × Byte) := field (fun t => (t.hl, t.regs.f)) r

/-- Is there a next state? -/
def isNext : Result → Bool
  | .next _ => true
  | _ => false

/-- The fault, if there is one. -/
def faultOf : Result → Option Fault
  | .fault f => some f
  | _ => none

/-- A machine with A, F and B given. -/
def afb (a f b : Byte) : State := withR fun r => { r with a := a, f := f, b := b }

/-! One instruction each, with the values of spec/95_test_vectors.md (L1.1, L1.2, L2.1 to L2.7). -/

theorem test_ld_b_c : field (fun t => t.regs.b) (exec .ldBC State.reset) = some 0x13 := by decide

theorem test_ld_a_hl : field (fun t => t.regs.a)
    (exec .ldAAtHl { withR (fun r => { r with h := 0xC0, l := 0x00 }) with ram := [(0xC000, 0x99)] }) = some 0x99 := by decide

theorem test_ld_hl_n : field (fun t => t.ram) (exec (.ldAtHlN 0xAA) (withR fun r => { r with h := 0xFF, l := 0x80 })) =
    some [(0xFF80, 0xAA)] := by decide

theorem test_ld_hlInc_a : field (fun t => (t.intr.ie, t.hl))
    (exec .ldAtHlIncA (withR fun r => { r with a := 0x05, h := 0xFF, l := 0xFF })) = some (0x05, 0x0000) := by decide

theorem test_ld_a_hlDec : field (fun t => (t.regs.a, t.hl))
    (exec .ldAAtHlDec { withR (fun r => { r with h := 0, l := 0 }) with rom := [(0, 0x7B)] }) = some (0x7B, 0xFFFF) := by
  decide

theorem test_ldh_n_a : field (fun t => (t.intr.ifl, busRead t 0xFF0F)) (exec (.ldhAtNA 0x0F) (withR fun r => { r with a := 0xFF })) =
    some (0x1F, 0xFF) := by decide

theorem test_ldh_a_n : field (fun t => t.regs.a) (exec (.ldhAAtN 0x0F) State.reset) = some 0xE1 := by decide

theorem test_ld_c_a : field (fun t => (t.timer.divCounter, busRead t 0xFF04))
    (exec .ldAtCA (withR fun r => { r with a := 0x77, c := 0x04 })) = some (0, 0x00) := by decide

theorem test_ld_a_nn : field (fun t => t.regs.a) (exec (.ldAAtNn 0xFE00) { State.reset with ram := [(0xFE00, 0x10)] }) =
    some 0x10 := by decide

theorem test_ld_nn_a : field (fun t => busRead t 0xFEA0) (exec (.ldAtNnA 0xFEA0) (withR fun r => { r with a := 0x12 })) =
    some 0xFF := by decide

theorem test_ld_nn_a_mbc1 : field (fun t => (t.mbc.romBank, t.rom))
    (exec (.ldAtNnA 0x2000)
      { withR (fun r => { r with a := 0x05 }) with params := { Params.default with mbcType := .mbc1, romBanks := 4 } }) =
    some (5, []) := by decide

theorem test_ld_hl_nn : field (fun t => (t.regs.h, t.regs.l)) (exec (.ldHlNn 0x1234) State.reset) = some (0x12, 0x34) := by
  decide

theorem test_ld_nn_sp : field (fun t => (t.intr.ie, t.mbc.ramEnabled, t.rom))
    (exec (.ldAtNnSp 0xFFFF)
      { withR (fun r => { r with sp := 0xABCD }) with
        params := { Params.default with mbcType := .mbc1 }, mbc := { Mbc.reset with ramEnabled := true } }) =
    some (0xCD, false, []) := by decide

theorem test_push_bc : field (fun t => (t.ram, t.sp)) (exec .pushBc (withR fun r => { r with b := 0x12, c := 0x34, sp := 0xFFFE })) =
    some ([(0xFFFC, 0x34), (0xFFFD, 0x12)], 0xFFFC) := by decide

theorem test_push_af_wraps : field (fun t => (t.intr.ie, t.sp, t.rom)) (exec .pushAf (withR fun r => { r with sp := 0x0001 })) =
    some (0xB0, 0xFFFF, []) := by decide

theorem test_pop_af : accF (exec .popAf { withR (fun r => { r with sp := 0xC000 }) with ram := [(0xC000, 0xFF), (0xC001, 0x12)] }) =
    some (0x12, 0xF0) := by decide

theorem test_pop_bc_wraps : field (fun t => (t.bc, t.sp))
    (exec .popBc { withR (fun r => { r with sp := 0xFFFF }) with
      intr := { State.reset.intr with ie := 0x34 }, rom := [(0, 0x12)] }) = some (0x1234, 0x0001) := by decide

theorem test_ld_hl_sp_e : hlF (exec (.ldHlSpE 0x01) (withR fun r => { r with sp := 0x00FF })) = some (0x0100, 0x30) ∧
    hlF (exec (.ldHlSpE 0xFF) (withR fun r => { r with sp := 0x0000 })) = some (0xFFFF, 0x00) := by decide

theorem test_add_a_b : accF (exec .addAB (afb 0x3A 0x00 0xC6)) = some (0x00, 0xB0) ∧
    accF (exec .addAB (afb 0x0F 0xF0 0x01)) = some (0x10, 0x20) := by decide

theorem test_adc_a_n : accF (exec (.adcAN 0x00) (afb 0xFF 0x10 0)) = some (0x00, 0xB0) := by decide

theorem test_sub_n : accF (exec (.subN 0x0F) (afb 0x3E 0 0)) = some (0x2F, 0x60) ∧
    accF (exec (.subN 0x40) (afb 0x3E 0 0)) = some (0xFE, 0x50) := by decide

theorem test_sbc_a_n : accF (exec (.sbcAN 0xFF) (afb 0x00 0x10 0)) = some (0x00, 0xF0) := by decide

theorem test_sbc_a_hl : accF (exec .sbcAAtHl { withR (fun r => { r with a := 0x3B, f := 0x10, h := 0xC0, l := 0 }) with
    ram := [(0xC000, 0x4F)] }) = some (0xEB, 0x70) := by decide

theorem test_and_n : accF (exec (.andN 0x00) (afb 0x5A 0 0)) = some (0x00, 0xA0) := by decide

theorem test_xor_a : accF (exec .xorA (afb 0x5A 0xF0 0)) = some (0x00, 0x80) := by decide

theorem test_or_n : accF (exec (.orN 0x03) (afb 0x5A 0xF0 0)) = some (0x5B, 0x00) := by decide

theorem test_cp_b : accF (exec .cpB (afb 0x3C 0 0x40)) = some (0x3C, 0x50) := by decide

theorem test_inc_b : bF (exec .incB (afb 0 0x10 0xFF)) = some (0x00, 0xB0) ∧ bF (exec .incB (afb 0 0x10 0x50)) = some (0x51, 0x10) := by
  decide

theorem test_dec_b : bF (exec .decB (afb 0 0x10 0x10)) = some (0x0F, 0x70) ∧ bF (exec .decB (afb 0 0x00 0x00)) = some (0xFF, 0x60) := by
  decide

theorem test_daa_after_add : accF (exec .daa (afb 0x7D 0x00 0)) = some (0x83, 0x00) ∧
    accF (exec .daa (afb 0x9A 0x00 0)) = some (0x00, 0x90) ∧ accF (exec .daa (afb 0x20 0x10 0)) = some (0x80, 0x10) := by decide

theorem test_daa_after_sub : accF (exec .daa (afb 0x4B 0x60 0)) = some (0x45, 0x40) ∧
    accF (exec .daa (afb 0xF0 0x50 0)) = some (0x90, 0x50) := by decide

theorem test_cpl : accF (exec .cpl (afb 0x35 0x00 0)) = some (0xCA, 0x60) := by decide

theorem test_scf_ccf : accF (exec .scf (afb 0 0xE0 0)) = some (0, 0x90) ∧ accF (exec .ccf (afb 0 0x90 0)) = some (0, 0x80) := by
  decide

theorem test_add_hl_bc : hlF (exec .addHlBc (withR fun r => { r with h := 0x8A, l := 0x23, b := 0x06, c := 0x05, f := 0x80 })) =
    some (0x9028, 0xA0) := by decide

theorem test_add_hl_hl : hlF (exec .addHlHl (withR fun r => { r with h := 0x8A, l := 0x23, f := 0x00 })) =
    some (0x1446, 0x30) := by decide

theorem test_add_sp_e : field (fun t => (t.sp, t.regs.f)) (exec (.addSpE 0xFF) (withR fun r => { r with sp := 0x0000 })) =
    some (0xFFFF, 0x00) ∧
    field (fun t => (t.sp, t.regs.f)) (exec (.addSpE 0x01) (withR fun r => { r with sp := 0x000F })) = some (0x0010, 0x20) := by
  decide

theorem test_inc_bc : field (fun t => (t.bc, t.regs.f)) (exec .incBc (withR fun r => { r with b := 0xFF, c := 0xFF, f := 0xF0 })) =
    some (0x0000, 0xF0) := by decide

theorem test_rlc_rrc : bF (exec .rlcB (afb 0 0 0x80)) = some (0x01, 0x10) ∧ bF (exec .rrcB (afb 0 0 0x01)) = some (0x80, 0x10) := by
  decide

theorem test_rl_rr : bF (exec .rlB (afb 0 0x10 0x00)) = some (0x01, 0x00) ∧ bF (exec .rrB (afb 0 0x10 0x00)) = some (0x80, 0x00) := by
  decide

theorem test_sla_sra : bF (exec .slaB (afb 0 0 0xF0)) = some (0xE0, 0x10) ∧ bF (exec .sraB (afb 0 0 0x80)) = some (0xC0, 0x00) := by
  decide

theorem test_swap_srl : bF (exec .swapB (afb 0 0x10 0x85)) = some (0x58, 0x00) ∧
    bF (exec .srlB (afb 0 0x10 0x85)) = some (0x42, 0x10) := by decide

theorem test_rlca_rra : accF (exec .rlca (afb 0x80 0 0)) = some (0x01, 0x10) ∧ accF (exec .rlca (afb 0x00 0 0)) = some (0x00, 0x00) ∧
    accF (exec .rra (afb 0x01 0 0)) = some (0x00, 0x10) := by decide

theorem test_bit : bF (exec .bit0B (afb 0 0x10 0x01)) = some (0x01, 0x30) ∧ bF (exec .bit0B (afb 0 0x00 0x00)) = some (0x00, 0xA0) := by
  decide

theorem test_res_hl : field (fun t => (t.ram, t.regs.f)) (exec .res0AtHl { withR (fun r => { r with h := 0xC0, l := 0 }) with
    ram := [(0xC000, 0x01)] }) = some ([], 0xB0) := by decide

theorem test_set_a : accF (exec .set7A (afb 0x00 0x50 0)) = some (0x80, 0x50) := by decide

theorem test_prefix : accF (exec (.prefixCb 0x37) (afb 0x0F 0x10 0)) = some (0xF0, 0x00) := by decide

theorem test_jr : field State.pc (exec (.jrE 0x80) (withR fun r => { r with pc := 0x0202 })) = some 0x0182 ∧
    field State.pc (exec (.jrNzE 0x05) (withR fun r => { r with pc := 0x0202, f := 0x80 })) = some 0x0202 := by decide

theorem test_call : field (fun t => (t.ram, t.sp, t.pc)) (exec (.callNn 0x4000) (withR fun r => { r with pc := 0x0153, sp := 0xC002 })) =
    some ([(0xC000, 0x53), (0xC001, 0x01)], 0xC000, 0x4000) := by decide

theorem test_ret_nc : field (fun t => (t.sp, t.pc)) (exec .retNc (withR fun r => { r with f := 0x10 })) = some (0xFFFE, 0x0100) := by
  decide

theorem test_rst38 : field (fun t => (t.ram, t.pc)) (exec .rst38 (withR fun r => { r with pc := 0x0039 })) =
    some ([(0xFFFC, 0x39)], 0x0038) := by decide

theorem test_reti : field (fun t => (t.pc, t.intr.ime, t.intr.eiPending))
    (exec .reti { withR (fun r => { r with sp := 0xC000 }) with
      ram := [(0xC000, 0x34), (0xC001, 0x02)], intr := { State.reset.intr with eiPending := true } }) =
    some (0x0234, true, false) := by decide

theorem test_illegal : faultOf (exec .illegalDD (withR fun r => { r with pc := 0x0201 })) =
    some (.illegalInstruction { opcode := 0xDD, pc := 0x0200 }) := by decide

/-! One step each (L2.7). -/

theorem test_step_swap : field (fun t => (t.regs.a, t.pc, t.ctl.totalCycles))
    (step { withCode [0xCB, 0x37] with regs := { State.reset.regs with pc := 0xC000, a := 0x0F } }) = some (0xF0, 0xC002, 2) := by
  decide

/-- A step from reset fetches at 0x0100, where empty memory holds a NOP (log 1). -/
theorem test_step_reset : field (fun t => (t.pc, t.ctl.totalCycles)) (step State.reset) = some (0x0101, 1) := by decide

theorem test_fetchWord : field (fun t => (t.regs.a, t.pc)) (step (State.reset.withFetchWord 8 0x3C)) = some (0x02, 0x0101) ∧
    field (fun t => (t.regs.a, t.pc)) (step (State.reset.withFetchWord 16 0xCB37)) = some (0x10, 0x0102) := by decide

theorem test_dispatch : field (fun t => (busRead t 0xFF0F, t.ram, t.sp, t.pc, t.intr.ime))
    (step { withR (fun r => { r with pc := 0x0234, sp := 0xD000 }) with
      intr := { ime := true, ie := 0x05, ifl := 0x05, eiPending := false } }) =
    some (0xE4, [(0xCFFE, 0x34), (0xCFFF, 0x02)], 0xCFFE, 0x0040, false) := by decide

theorem test_wake_and_dispatch : field (fun t => (t.pc, t.halted, t.ctl.totalCycles))
    (step { withR (fun r => { r with pc := 0x0111, sp := 0xD000 }) with
      halted := true, intr := { ime := true, ie := 0x04, ifl := 0x04, eiPending := false } }) = some (0x0050, false, 5) := by
  decide

theorem test_ei_delay : field (fun t => (t.intr.ime, t.intr.eiPending, t.pc))
    (step { withCode [0x00] with intr := { ime := false, ie := 0x01, ifl := 0x01, eiPending := true } }) =
    some (true, false, 0xC001) := by decide

theorem test_di_after_ei : field (fun t => (t.intr.ime, t.intr.eiPending))
    (step { withCode [0xF3] with intr := { ime := false, ie := 0x00, ifl := 0x00, eiPending := true } }) =
    some (false, false) := by decide

theorem test_halt_bug : field (fun t => (t.regs.a, t.pc, t.haltBugLatch))
    (step { withCode [0x3C] with haltBugLatch := true }) = some (0x02, 0xC000, false) := by decide

/-- P4 of Part 3, step 13: the timer overflows in an idle step. -/
theorem test_timer_in_halt : field (fun t => (t.timer.tima, busRead t 0xFF0F, t.halted))
    (step { State.reset with
      halted := true, intr := { ime := true, ie := 0x04, ifl := 0x00, eiPending := false }
      timer := { divCounter := 0, tima := 0xFF, tma := 0x00, tac := 0b101, sub := 3 } }) = some (0x00, 0xE4, true) := by decide

theorem test_stop : field (fun t => (t.stopped, t.pc, busRead t 0xFF04)) (step (withCode [0x10, 0x00])) =
    some (true, 0xC002, 0x00) := by decide

/-! The devices (L1.7 to L1.9, L2.8, L2.9). -/

theorem test_div : busRead State.reset 0xFF04 = 0xAB ∧ (timerTick State.reset.timer 0 64).1.div = 0xAC := by decide

theorem test_timer_reload : timerTick { divCounter := 0, tima := 0xFF, tma := 0x80, tac := 0b101, sub := 0 } 0 4 =
    ({ divCounter := 4, tima := 0x80, tma := 0x80, tac := 0b101, sub := 0 }, 0b00100) := by decide

theorem test_timer_slow_to_fast : timerTick { divCounter := 0, tima := 0x10, tma := 0, tac := 0b101, sub := 40 } 0 1 =
    ({ divCounter := 1, tima := 0x1A, tma := 0, tac := 0b101, sub := 1 }, 0) := by decide

theorem test_ppu_modes :
    ({ State.reset.ppu with dot := 79 } : Ppu).mode = .oamSearch ∧ ({ State.reset.ppu with dot := 80 } : Ppu).mode = .transfer ∧
    ({ State.reset.ppu with dot := 252 } : Ppu).mode = .hblank ∧ ({ State.reset.ppu with ly := 144 } : Ppu).mode = .vblank := by
  decide

theorem test_vblank : ppuTick { State.reset.ppu with ly := 143, dot := 455 } 0 1 =
    ({ State.reset.ppu with ly := 144, dot := 0 }, 0b00001) := by decide

theorem test_stat_line : (ppuTick { State.reset.ppu with dot := 455, statSel := 0b0100 } 0 1).2 = 0b00010 ∧
    (ppuTick { State.reset.ppu with dot := 455, ly := 4, lyc := 5, statSel := 0b1000 } 0 1).2 = 0b00010 := by decide

theorem test_tile_row : tileRow 0x3C 0x7E = [0, 2, 3, 3, 3, 3, 2, 0] ∧ tileRow 0x80 0x01 = [1, 0, 0, 0, 0, 0, 0, 2] := by decide

theorem test_palette : [0, 1, 2, 3].map (paletteShade 0xE4) = [0, 1, 2, 3] := by decide

/-- The channel of frequency 0x700, enabled. -/
def chan700 : Channel := { Channel.zero with nr3 := 0x00, nr4 := 0x07, enabled := true }

theorem test_sweep : ((sweepChannel 0b00000001 chan700).enabled, (sweepChannel 0b00000001 chan700).freq) = (false, 0x700) ∧
    (sweepChannel 0b00001010 { chan700 with nr4 := 0x04 }).freq = 0x300 ∧
    (sweepChannel 0b00000001 { chan700 with nr3 := 0xFF, nr4 := 0x03 }).freq = 0x5FE := by decide

theorem test_header : mbcTypeOf 0x01 = some .mbc1 ∧ mbcTypeOf 0x19 = none ∧ romBanksOf 0x02 = some 8 := by decide

/-- The breakpoint stops the run before the instruction at it (L1.5). -/
theorem test_breakpoint : (fun p => (p.1.pc, p.1.regs.a, p.1.ctl.running, p.2))
    (run 2 { withCode [0x3E, 0x42, 0x3C] with ctl := { running := true, breakpoints := [0xC002], totalCycles := 0 } }) =
    (0xC002, 0x42, false, .breakpoint) := by decide

/-! Reset, the memory view and the parameters. -/

/-- BootRom zeroes the APU, wave RAM too, whatever APU_DETAIL is; PostBoot takes APU_DETAIL's (R359, R370). -/
theorem test_wave_reset : let d := { ApuDetail.default with postBootWave := [(0xFF30, 0x5A)] }
    (State.powerOn { Params.default with apu := d, resetMode := .bootRom } Images.empty).waveRam = [] ∧
    (State.powerOn { Params.default with apu := d } Images.empty).waveRam = [(0xFF30, 0x5A)] := by decide

/-- A poke writes the image byte of the mapped bank (D29); under the boot ROM's overlay, the boot ROM's (log 41). -/
theorem test_poke_rom : (pokeByte State.reset 0x0010 0xC3).rom = [(0x10, 0xC3)] ∧
    (pokeByte { State.reset with bootOverlay := true } 0x0010 0xC3).rom = [] ∧
    busRead (pokeByte { State.reset with bootOverlay := true } 0x0010 0xC3) 0x0010 = 0xC3 := by decide

/-- CYCLES may be replaced (R7); the default has JR NZ at 3, and 2 when not taken (R244). -/
theorem test_cycle_table : instrCycles (.jrNzE 0) (withR fun r => { r with f := 0x00 }) = 3 ∧
    instrCycles (.jrNzE 0) (withR fun r => { r with f := 0x80 }) = 2 ∧
    instrCycles .nop
      { State.reset with params := { Params.default with cycles := { CycleTable.default with page := [[9]] } } } = 9 := by decide

/-- STOP_WAKE may be a predicate on IE (R7, R264): stuck without it, awake with it. -/
theorem test_stop_wake : let p := { Params.default with stopWake := .and (.bits 0xFFFF 0x80) (.not (.requests 0b00001)) }
    stopWake { State.reset with params := p, intr := { ime := false, ie := 0x80, ifl := 0x00, eiPending := false } } = true ∧
    stopWake { State.reset with params := p, intr := { ime := false, ie := 0x80, ifl := 0x01, eiPending := false } } = false ∧
    stopWake { State.reset with params := p, intr := { ime := false, ie := 0x7F, ifl := 0x00, eiPending := false } } = false := by
  decide

/-- A BUS given in the spec's place leaves IE and IF the engine's (D4). -/
theorem test_given_bus : let s := { State.reset with params := { Params.default with bus := .given 3, tick := .given 3 } }
    busRead (busWrite s 0xFFFF 0xA5) 0xFFFF = 0xA5 ∧ busRead (busWrite s 0xFF0F 0x05) 0xFF0F = 0xE5 := by decide

/-- A poke of external RAM stores though it is disabled; with no bank on the cartridge it changes nothing (D29; log 35). -/
theorem test_poke_ext_ram : pokeByte State.reset 0xA000 0x55 = State.reset ∧
    (pokeByte { State.reset with params := { Params.default with ramBanks := 1 } } 0xA000 0x55).extRam = [(0, 0x55)] := by decide

/-- Wave RAM takes a byte while the APU is on and the wave channel is not enabled (R358, R359). -/
theorem test_wave_write : (busWrite State.reset 0xFF30 0x5A).waveRam = [(0xFF30, 0x5A)] := by decide

/-! Witnesses: for every obligation with hypotheses, a state and operands that meet all of them together; where an obligation
has several clauses, one for each, at the ends of its ranges. -/

theorem test_witness_DecodeEncodeAgree : (Instr.ldAtNnSp 0xFFFF).WellFormed = true ∧ (Instr.stop 0x00).WellFormed = true ∧
    Instr.set7A.WellFormed = true := by decide

theorem test_witness_EncodeDecodeAgree : (0xCB : Byte) = 0xCB := rfl

theorem test_witness_RegisterViews : R16.sp ≠ R16.bc ∧ R16.hl ≠ R16.de := by decide

theorem test_witness_PushThenPopGivesBack :
    (State.reset.params.bus = .spec ∧ State.reset.ram.wf = true ∧ ramKey (State.reset.sp - 1) ≠ none ∧ ramKey (State.reset.sp - 2) ≠ none) ∧
    (ramKey (0xE001 - 1) ≠ none ∧ ramKey (0xE001 - 2) ≠ none) ∧ (ramKey (0x8002 - 1) ≠ none ∧ ramKey (0x8002 - 2) ≠ none) := by
  decide

theorem test_witness_AccumulatorAndFlagOps : (afb 0x9A 0x00 0).flagN = false ∧ (afb 0x00 0x70 0).flagN = true := by decide

theorem test_witness_DaaMakesDecimalSums : 0 < 10 ∧ 9 < 10 := by decide

/-- The state of the EI delay's last step. -/
def eiState : State := { withCode [0x00] with intr := { ime := false, ie := 0x1F, ifl := 0x1F, eiPending := true } }

theorem test_witness_NopDiEi : eiState.fault = none ∧ eiState.stopped = false ∧ eiState.halted = false ∧ eiState.intr.ime = false ∧
    eiState.intr.eiPending = true := by decide

theorem test_witness_OnlyIllegalOpcodesStop :
    (0xD3 : Byte) ∈ ([0xD3, 0xDB, 0xDD, 0xE3, 0xE4, 0xEB, 0xEC, 0xED, 0xF4, 0xFC, 0xFD] : List Byte) ∧
    (0xFD : Byte) ∈ ([0xD3, 0xDB, 0xDD, 0xE3, 0xE4, 0xEB, 0xEC, 0xED, 0xF4, 0xFC, 0xFD] : List Byte) ∧
    (0xCB : Byte) ∉ ([0xD3, 0xDB, 0xDD, 0xE3, 0xE4, 0xEB, 0xEC, 0xED, 0xF4, 0xFC, 0xFD] : List Byte) ∧
    (0xFF : Byte) ∉ ([0xD3, 0xDB, 0xDD, 0xE3, 0xE4, 0xEB, 0xEC, 0xED, 0xF4, 0xFC, 0xFD] : List Byte) := by decide

/-- Do the stores of an instruction, run from reset, leave these addresses out? -/
def leaves (i : Instr) (l : List Word) : Bool :=
  l.all fun b => (storeAddrs i State.reset).all fun a => !touches State.reset.params.bus a b

/-- A store at 0xC000 leaves its neighbours and the top of memory out; a PUSH, both its neighbours; a store to ROM, all of
ROM's fixed window; a store to SCY, every other register; STOP stores nothing. -/
theorem test_witness_MemoryFrame :
    (isNext (exec (.ldAtNnA 0xC000) State.reset) = true ∧ leaves (.ldAtNnA 0xC000) [0xBFFF, 0xC001, 0xE001, 0xFFFF] = true) ∧
    (isNext (exec .pushBc State.reset) = true ∧ leaves .pushBc [0xFFFB, 0xFFFE, 0xFF04] = true) ∧
    (isNext (exec (.ldAtNnA 0x2000) State.reset) = true ∧ leaves (.ldAtNnA 0x2000) [0x0000, 0x3FFF, 0x8000] = true) ∧
    (isNext (exec (.ldhAtNA 0x42) State.reset) = true ∧ leaves (.ldhAtNA 0x42) [0xFF41, 0xFF43, 0xFF80, 0xFFFF] = true) ∧
    (isNext (exec (.stop 0) State.reset) = true ∧ leaves (.stop 0) [0xFF03, 0xFF05] = true ∧
      divTouches State.reset.params.bus 0xFF03 = false ∧ divTouches State.reset.params.bus 0xFF05 = false) := by decide +kernel

/-- A machine whose BUS and PLATFORM_TICK are given in place of the spec's. -/
def givenState : State := { State.reset with params := { Params.default with bus := .given 7, tick := .given 7 } }

/-- On a given BUS a store to RAM leaves IE and IF out, and one to IE leaves every other address. -/
theorem test_witness_MemoryFrame_given : givenState.params.bus = .given 7 ∧ touches (.given 7) 0xC000 0xFFFF = false ∧
    touches (.given 7) 0xC000 0xFF0F = false ∧ touches (.given 7) 0xFFFF 0xFFFE = false ∧
    divTouches (.given 7) 0xFF0F = false := by decide

theorem test_witness_RegisterFrame : (∃ t, exec .addAB State.reset = .next t) ∧ R8.b ∉ writtenRegs .addAB ∧
    writtenRegs .addAB = [R8.a] ∧ writesSp .addAB = false ∧ writtenRegs .popAf = [R8.a] ∧ writesSp .popAf = true ∧
    writtenRegs .ldAtHlIncA = [R8.h, R8.l] ∧ writtenRegs .bit7AtHl = [] ∧ writtenRegs .set7H = [R8.h] :=
  ⟨⟨_, rfl⟩, by decide, by decide, by decide, by decide, by decide, by decide, by decide, by decide⟩

theorem test_witness_FlagFrame : (∃ t, exec .incB State.reset = .next t) ∧ keptFlags .incB = 0x10 ∧
    State.reset.regs.f &&& 0x0F = 0 ∧ keptFlags .ldBC = 0xF0 ∧ keptFlags .daa = 0x40 ∧ keptFlags .cpl = 0x90 ∧
    keptFlags .addHlSp = 0x80 ∧ keptFlags .popAf = 0x00 ∧ keptFlags .set7A = 0xF0 ∧ keptFlags .bit0B = 0x10 :=
  ⟨⟨_, rfl⟩, by decide, by decide, by decide, by decide, by decide, by decide, by decide, by decide, by decide⟩

theorem test_witness_SystemFrame : (∃ t, exec .addAB State.reset = .next t) ∧ writesIme .addAB = false ∧ Instr.addAB ≠ .halt ∧
    (∀ x, Instr.addAB ≠ .stop x) ∧ storeAddrs .addAB State.reset = [] ∧ writesIme .reti = true :=
  ⟨⟨_, rfl⟩, rfl, nofun, nofun, rfl, rfl⟩

theorem test_witness_StepRunsDecodedInstruction :
    (State.reset.fault = none ∧ State.reset.stopped = false ∧ State.reset.halted = false ∧ State.reset.intr.ime = false) ∧
    State.reset.haltBugLatch = false ∧
    decode [busRead State.reset State.reset.pc, busRead State.reset (State.reset.pc + 1), busRead State.reset (State.reset.pc + 2)] =
      .ok (.nop, [0, 0]) := by decide

theorem test_witness_StepRunsDecodedInstruction_cb :
    decode [busRead (withCode [0xCB, 0xFF]) 0xC000, busRead (withCode [0xCB, 0xFF]) 0xC001, busRead (withCode [0xCB, 0xFF]) 0xC002] =
      .ok (.set7A, [0]) := by decide

/-- A state with the HALT bug's latch set, about to fetch INC A. -/
def latched : State :=
  { withCode [0x3C] with haltBugLatch := true, params := { Params.default with haltBug := true } }

/-- A state in which HALT sets the latch. -/
def haltBugState : State :=
  { withCode [0x76] with
    params := { Params.default with haltBug := true }
    intr := { ime := false, ie := 0x01, ifl := 0x01, eiPending := false } }

theorem test_witness_HaltBugFetchesTwice :
    (latched.fault = none ∧ latched.stopped = false ∧ latched.halted = false ∧ latched.intr.ime = false) ∧
    latched.haltBugLatch = true ∧ isIllegal (busRead latched latched.pc) = false ∧
    haltBugState.haltBugLatch = false ∧ haltBugState.params.haltBug = true ∧ field (fun t => t.haltBugLatch) (step haltBugState) = some true := by decide

/-- A state with every source enabled and requested. -/
def allPending : State := { State.reset with intr := { ime := true, ie := 0xFF, ifl := 0x1F, eiPending := false } }

/-- A state with the joypad source alone. -/
def joypadPending : State := { State.reset with intr := { ime := true, ie := 0xFF, ifl := 0x10, eiPending := false } }

theorem test_witness_DispatchTakesHighest :
    (allPending.fault = none ∧ allPending.stopped = false ∧ allPending.intr.ime = true ∧ 0 < 5 ∧
      allPending.intr.ie.getLsbD 0 = true ∧ allPending.intr.ifl.getLsbD 0 = true ∧
      ∀ j, j < 0 → (allPending.intr.ie.getLsbD j && allPending.intr.ifl.getLsbD j) = false) ∧
    (joypadPending.intr.ime = true ∧ 4 < 5 ∧ joypadPending.intr.ie.getLsbD 4 = true ∧ joypadPending.intr.ifl.getLsbD 4 = true ∧
      ∀ j, j < 4 → (joypadPending.intr.ie.getLsbD j && joypadPending.intr.ifl.getLsbD j) = false) ∧
    (eiState.fault = none ∧ eiState.stopped = false ∧ eiState.halted = false ∧ eiState.intr.ime = false ∧
      pending eiState = true) := by decide

theorem test_witness_DispatchFrame : (0xC000 : Word) ≠ 0xFF0F ∧
    touches State.reset.params.bus (State.reset.sp - 1) 0xC000 = false ∧
    touches State.reset.params.bus (State.reset.sp - 2) 0xC000 = false ∧
    touches State.reset.params.bus (State.reset.sp - 1) 0xFFFE = false ∧
    touches State.reset.params.bus (State.reset.sp - 2) 0xFFFB = false := by decide

/-- A halted machine with nothing pending. -/
def asleep : State := { State.reset with halted := true, intr := { ime := true, ie := 0x04, ifl := 0x1B, eiPending := false } }

/-- A halted machine with a source pending and IME clear. -/
def waking : State := { State.reset with halted := true, intr := { ime := false, ie := 0x10, ifl := 0x10, eiPending := false } }

/-- A stopped machine with no joypad request. -/
def stuckState : State := { State.reset with stopped := true }

/-- A stopped machine with a joypad request. -/
def stopWaking : State := { stuckState with intr := { State.reset.intr with ifl := 0x10 } }

/-- A stopped machine that an IE bit wakes. -/
def ieWaking : State :=
  { stuckState with
    params := { Params.default with stopWake := .bits 0xFFFF 0x80 }, intr := { State.reset.intr with ie := 0x80 } }

theorem test_witness_SleepAndWake :
    (asleep.fault = none ∧ asleep.stopped = false ∧ asleep.halted = true ∧ pending asleep = false) ∧
    (waking.fault = none ∧ waking.stopped = false ∧ waking.halted = true ∧ pending waking = true) ∧
    (stuckState.fault = none ∧ stuckState.stopped = true ∧ stopWake stuckState = false) ∧
    (stopWaking.fault = none ∧ stopWaking.stopped = true ∧ stopWake stopWaking = true ∧
      stopWaking.params.stopWake = Params.default.stopWake) ∧
    (ieWaking.params.stopWake = .bits 0xFFFF 0x80 ∧ ieWaking.fault = none ∧ ieWaking.stopped = true ∧
      stopWake ieWaking = true) := by decide

/-- A running machine about to fetch an illegal opcode. -/
def illegalState : State := { withCode [0xDD] with ctl := { Control.reset with running := true } }

/-- A running machine with a recorded fault. -/
def faultedState : State := { illegalState with fault := some { opcode := 0xDD, pc := 0xC000 } }

theorem test_witness_IllegalFaultIsPreciseAndFinal :
    (illegalState.fault = none ∧ illegalState.stopped = false ∧ illegalState.halted = false ∧ illegalState.intr.ime = false) ∧
    busRead illegalState illegalState.pc ∈ illegalOpcodes ∧ illegalState.ctl.running = true ∧
    faultedState.fault = some { opcode := 0xDD, pc := 0xC000 } ∧ faultedState.ctl.running = true ∧
    isNext (step State.reset) = true := by decide

theorem test_witness_WhoWritesIme :
    (eiState.intr.ime = false ∧ field (fun t => t.intr.ime) (step eiState) = some true) ∧
    (allPending.intr.ime = true ∧ field (fun t => t.intr.ime) (step allPending) = some false) := by decide

/-- A machine whose platform requests the joypad interrupt in its next tick, and serial in the one after. -/
def requesting : State :=
  { State.reset with requests := [{ serial := false, joypad := true }, { serial := true, joypad := false }] }

theorem test_witness_StepOutcomesAndCost : State.reset.params.cycles = CycleTable.default := rfl

theorem test_witness_DevicesOnlySetRequests : (State.reset.intr.ifl.getLsbD 0 = true) ∧ (joypadPending.intr.ifl.getLsbD 4 = true) ∧
    State.reset.params.tick = .spec ∧ requesting.requests.head? = some { serial := false, joypad := true } ∧
    (platformTick requesting 1).intr.ifl = 0b10001 ∧ (platformTick (platformTick requesting 1) 1).intr.ifl = 0b11001 := by
  decide

theorem test_witness_BusRegions :
    (State.reset.params.bus = .spec ∧ State.reset.ram.wf = true ∧ ramKey 0x8000 ≠ none ∧ ramKey 0x9FFF ≠ none ∧ ramKey 0xC000 ≠ none ∧ ramKey 0xFDFF ≠ none ∧
      ramKey 0xFE00 ≠ none ∧ ramKey 0xFE9F ≠ none ∧ ramKey 0xFF80 ≠ none ∧ ramKey 0xFFFE ≠ none) ∧
    (0xE000 ≤ (0xE000 : Word).toNat ∧ (0xFDFF : Word).toNat < 0xFE00) ∧
    (0xFEA0 ≤ (0xFEA0 : Word).toNat ∧ (0xFEFF : Word).toNat < 0xFF00) ∧
    (0xA000 ≤ (0xA000 : Word).toNat ∧ (0xBFFF : Word).toNat < 0xC000 ∧ State.reset.mbc.ramEnabled = false) ∧
    ((0xC000 ≤ (0xDFFF : Word).toNat ∧ (0xDFFF : Word).toNat < 0xE000) ∧ 0xFF80 ≤ (0xFFFE : Word).toNat ∧
      (0xFFFE : Word).toNat < 0xFFFF) := by decide

theorem test_witness_RomNeverChanges : State.reset.params.bus = .spec ∧ (0x7FFF : Word).toNat < 0x8000 ∧ isNext (step State.reset) = true ∧
    ((0x3FFF : Word).toNat < 0x4000 ∧ State.reset.bootOverlay = false) ∧
    (0x4000 ≤ (0x4000 : Word).toNat ∧ (0x7FFF : Word).toNat < 0x8000) := by decide

/-- A machine with an MBC1 cartridge of four banks. -/
def mbc1State : State := { State.reset with params := { Params.default with mbcType := .mbc1, romBanks := 4, ramBanks := 4 } }

theorem test_witness_BankSelectIsModulo : mbc1State.params.bus = .spec ∧ mbc1State.params.mbcType = .mbc1 ∧
    (0x2000 ≤ (0x2000 : Word).toNat ∧ (0x3FFF : Word).toNat < 0x4000 ∧ 0x4000 ≤ (0x4000 : Word).toNat ∧
      (0x7FFF : Word).toNat < 0x8000) ∧ (0x1FFF : Word).toNat < 0x2000 ∧
    ((0x7FFF : Word).toNat < 0x8000 ∧ (0x3FFF : Word).toNat < 0x4000) := by decide

/-- The banks of L1.7: 5 and 1 select bank 1, 0 selects bank 1, 7 bank 3. -/
theorem test_banks : [(0x05 : Byte), 0x00, 0x07].map (fun v => romOffset mbc1State.params (busWrite mbc1State 0x2000 v).mbc 0x4000) =
    [0x4000, 0x4000, 0xC000] := by decide

/-- A timer at the fastest rate with TIMA = TMA. -/
def fastTimer : Timer := { divCounter := 0, tima := 0xFE, tma := 0xFE, tac := 0b101, sub := 0 }

theorem test_witness_TimerTick : State.reset.params.bus = .spec ∧ State.reset.timer.tac.getLsbD 2 = false ∧ fastTimer.sub + 3 < fastTimer.period ∧
    fastTimer.period ≤ fastTimer.sub + 4 ∧ fastTimer.tac.getLsbD 2 = true := by decide

theorem test_witness_TimerInterruptPeriod : fastTimer.tac.getLsbD 2 = true ∧ fastTimer.tima = fastTimer.tma ∧ fastTimer.sub = 0 ∧
    7 < (256 - fastTimer.tma.toNat) * fastTimer.period := by decide

theorem test_timer_period : (timerTick fastTimer 0 7).2 = 0 ∧ (timerTick fastTimer 0 8).2 = 0b00100 := by decide

theorem test_witness_PpuScansLines : (State.reset.ppu.on = true ∧ State.reset.ppu.ly.toNat < 154 ∧ State.reset.ppu.dot < 456) ∧
    (Ppu.reset .bootRom).on = false ∧
    (({ State.reset.ppu with ly := 153, dot := 455 } : Ppu).ly.toNat < 154 ∧ ({ State.reset.ppu with dot := 455 } : Ppu).dot < 456) := by
  decide

/-- The machine of the other reset mode: LCD off, boot ROM over 0x0000-0x00FF. -/
def booting : State := State.powerOn { Params.default with resetMode := .bootRom } Images.empty

theorem test_witness_StatAndLcdSwitch : (State.reset.params.bus = .spec ∧ booting.params.bus = .spec) ∧
    ((0x7F : Byte).getLsbD 7 ≠ State.reset.ppu.on ∧ (0x80 : Byte).getLsbD 7 ≠ booting.ppu.on) ∧
    ((0x80 : Byte).getLsbD 7 = State.reset.ppu.on ∧ ¬State.reset.ppu.on = false) ∧
    ((0x7F : Byte).getLsbD 7 = booting.ppu.on ∧ booting.ppu.on = false ∧ booting.ppu.ly = 0 ∧ booting.ppu.dot = 0) := by decide

/-- OAM with two sprites that cover pixel (0, 0), and a tile whose every pixel is 3. -/
def spriteRam : Memory :=
  [(0x8000, 0xFF), (0x8001, 0xFF), (0xFE00, 16), (0xFE01, 8), (0xFE04, 16), (0xFE05, 4)]

/-- The PPU with sprites on. -/
def spritePpu : Ppu := { State.reset.ppu with lcdc := 0x93 }

theorem test_witness_TilesAndSprites_lines : coversLine spritePpu 7 (spriteAt spriteRam 0) = true ∧
    coversLine spritePpu 8 (spriteAt spriteRam 0) = false ∧ coversColumn 7 (spriteAt spriteRam 0) = true ∧
    spritePpu.lcdc.getLsbD 1 = true ∧ State.reset.ppu.lcdc.getLsbD 1 = false ∧
    shownSprite spritePpu spriteRam 9 0 = none := by decide +kernel

theorem test_witness_TilesAndSprites : 7 < 8 ∧ shownSprite spritePpu spriteRam 0 0 = some { y := 16, x := 4, tile := 0, attr := 0 } ∧
    ({ y := 16, x := 8, tile := 0, attr := 0 } : Sprite) ∈ lineSprites spritePpu spriteRam 0 ∧
    coversColumn 0 { y := 16, x := 8, tile := 0, attr := 0 } = true ∧
    spriteIndex spritePpu spriteRam 0 0 { y := 16, x := 8, tile := 0, attr := 0 } ≠ 0 := by decide +kernel

theorem test_witness_SweepRecomputes :
    ((0x01 : Byte).getLsbD 3 = false ∧ 0x7FF < chan700.freq.toNat + chan700.freq.toNat / 2 ^ ((0x01 : Byte).toNat % 8)) ∧
    ((0x07 : Byte).getLsbD 3 = false ∧ chan700.freq.toNat + chan700.freq.toNat / 2 ^ ((0x07 : Byte).toNat % 8) ≤ 0x7FF) ∧
    (0x0F : Byte).getLsbD 3 = true := by decide

/-- A running machine at a NOP before a breakpoint. -/
def beforeBreakpoint : State :=
  { withCode [0x00] with ctl := { running := true, breakpoints := [0xC001], totalCycles := 0 } }

theorem test_witness_RunLoop : State.reset.ctl.running = false ∧
    (beforeBreakpoint.ctl.running = true ∧ field State.pc (step beforeBreakpoint) = some 0xC001 ∧
      ¬(beforeBreakpoint.halted = true ∧ pending beforeBreakpoint = false) ∧ (0xC001 : Word) ∈ beforeBreakpoint.ctl.breakpoints) ∧
    (illegalState.ctl.running = true ∧ illegalState.fault = none ∧
      faultOf (step illegalState) = some (.illegalInstruction { opcode := 0xDD, pc := 0xC000 })) ∧
    (faultedState.ctl.running = true ∧ faultedState.fault ≠ none) ∧
    faultOf (step { stuckState with ctl := { Control.reset with running := true } }) = some .stuck ∧
    ¬(0 ≤ (-1 : Int) ∧ (-1 : Int) ≤ 0xFFFF) ∧ ¬(0 ≤ (0x10000 : Int) ∧ (0x10000 : Int) ≤ 0xFFFF) := by decide

theorem test_witness_SaveStateRoundTrip :
    Config.saveVersion + 1 ≠ (serialize State.reset).version ∧ Config.saveLength + 1 ≠ (serialize State.reset).length :=
  ⟨Nat.succ_ne_self _, Nat.succ_ne_self _⟩

theorem test_witness_ControlStateIsInvisible : stopWake { stuckState with ctl := { running := true, breakpoints := [0x0100], totalCycles := 9 } } =
    stopWake stuckState ∧ isNext (step State.reset) = true ∧ faultOf (step stuckState) = some .stuck := by decide

/-- A state with the invariant that a step leaves: sprites in OAM, a breakpoint, a halted machine. -/
theorem test_witness_StepKeepsInvariant :
    Inv { asleep with ram := spriteRam, ctl := { running := true, breakpoints := [0x0100, 0x0200], totalCycles := 0 } } ∧
    isNext (step { asleep with ram := spriteRam }) = true := by
  refine ⟨⟨by decide, by decide, by decide, by decide, by decide, by decide, fun _ => by decide, fun _ => by decide,
    fun _ => by decide, fun _ => by decide, by decide, by decide, ?_⟩, by decide⟩
  show List.Pairwise _ [(0x0100 : Word), 0x0200]
  decide

theorem test_witness_ResetHasInvariant : Images.empty.ram.wf = true ∧ Images.empty.extRam.wf = true ∧ Images.empty.rom.wf = true ∧
    Images.empty.bootRom.wf = true ∧ Params.default.apu.postBootWave.wf = true := by decide

theorem test_witness_ResetValues : Params.default.bus = .spec ∧ Params.default.resetMode = .postBoot ∧
    ({ Params.default with resetMode := .bootRom } : Params).resetMode = .bootRom := by decide

end Sys2Proof.Tests
end

section
/-! PROOFS of the family 10_state: the registers and the interrupt registers, reset, the frames of an instruction, the boundary of a
step, and the machine invariant. -/

namespace Sys2Proof.Machine

/-! The register views and F (spec/10_state.md R22 to R25). -/

/-- What every register reads as after one is written (R23). -/
theorem r8_setR8 (s : State) (r q : R8) (v : Byte) : (s.setR8 r v).r8 q = if q = r then v else s.r8 q := by
  split
  · next h => rw [h, State.r8_setR8_same]
  · next h => exact State.r8_setR8_other s r q v h

/-- Reading another pair than the one written (R24). -/
theorem r16_setR16_other (s : State) (p q : R16) (v : Word) (h : q ≠ p) : (s.setR16 p v).r16 q = s.r16 q := by
  cases p <;> cases q <;> first | rfl | exact absurd rfl h

/-- Masking the low byte as F masks the word by 0xFFF0 (R22, R25). -/
theorem mkWord_maskF (hi lo : Byte) : mkWord hi (maskF lo) = mkWord hi lo &&& 0xFFF0 := by
  calc mkWord hi (maskF lo) = mkWord (hi &&& 0xFF) (lo &&& 0xF0) := by
        rw [show hi &&& 0xFF = hi from BitVec.and_allOnes]; rfl
    _ = mkWord hi lo &&& mkWord 0xFF 0xF0 := BitVec.and_append.symm

/-- Reading the pair of `rp2` just written: AF without F's low nibble (R24, R25). -/
theorem q16_setQ16_same (s : State) (p : Q16) (v : Word) :
    (s.setQ16 p v).q16 p = if p = .af then v &&& 0xFFF0 else v := by
  cases p
  case af =>
    show mkWord (hiByte v) (maskF (loByte v)) = v &&& 0xFFF0
    rw [mkWord_maskF, mkWord_hi_lo]
  all_goals exact mkWord_hi_lo v

/-- The value of F by its flags (R25). -/
theorem packF_toNat (z n h c : Bool) :
    (packF z n h c).toNat = 128 * z.toNat + 64 * n.toNat + 32 * h.toNat + 16 * c.toNat := by
  cases z <;> cases n <;> cases h <;> cases c <;> rfl

/-- Settles O4, clause by clause. -/
theorem registerViews : Obligations.RegisterViews := by
  exact ⟨r8_setR8, fun _ _ => ⟨rfl, rfl⟩, fun _ => ⟨rfl, rfl, rfl, rfl⟩,
    fun s p v => ⟨State.r16_setR16_same s p v, fun q => r16_setR16_other s p q v⟩, q16_setQ16_same,
    fun _ v => ⟨rfl, maskF_low v⟩, fun _ => ⟨rfl, rfl, rfl, rfl⟩, packF_toNat, rfl, rfl, rfl⟩

/-! IE and IF on the bus (R31, R32): they are the engine's own under the spec's BUS and under a given one. -/

theorem busWrite_ie (s : State) (v : Byte) : busWrite s 0xFFFF v = { s with intr := { s.intr with ie := v } } := by
  cases h : s.params.bus with
  | spec => rw [busWrite_spec _ _ _ h]; rfl
  | given k => rw [busWrite_given _ _ _ k h]; rfl

theorem busRead_ie (s : State) : busRead s 0xFFFF = s.intr.ie := by
  cases h : s.params.bus with
  | spec => rw [busRead_spec _ _ h]; rfl
  | given k => rw [busRead_given _ _ k h]; rfl

theorem busWrite_if (s : State) (v : Byte) :
    busWrite s 0xFF0F v = { s with intr := { s.intr with ifl := v.extractLsb' 0 5 } } := by
  cases h : s.params.bus with
  | spec => rw [busWrite_spec _ _ _ h]; rfl
  | given k => rw [busWrite_given _ _ _ k h]; rfl

theorem busRead_if (s : State) : busRead s 0xFF0F = s.intr.readIf := by
  cases h : s.params.bus with
  | spec => rw [busRead_spec _ _ h]; rfl
  | given k => rw [busRead_given _ _ k h]; rfl

/-- The read of IF has its upper three bits 1 (R32). -/
theorem readIf_eq (i : Interrupts) : i.readIf = 0xE0 ||| i.ifl.setWidth 8 := by
  have h : ∀ x : BitVec 5, 0b111#3 ++ x = (0xE0 ||| x.setWidth 8 : Byte) := by decide
  exact h i.ifl

/-- Settles O46, by the two registers' reads and writes on either kind of BUS. -/
theorem interruptRegistersOnTheBus : Obligations.InterruptRegistersOnTheBus := by
  intro s v
  refine ⟨busWrite_ie s v, busRead_ie s, ?_, ?_⟩
  · rw [busWrite_if, BitVec.setWidth_eq_extractLsb' (by decide)]
  · rw [busRead_if, readIf_eq]

/-! Reset (R39; spec/60_exceptions.md R316, R349). -/

/-- Settles O60: each register file at reset is a function of RESET_MODE alone. -/
theorem resetValues : Obligations.ResetValues := by
  intro p img s
  have hread : ∀ a, regionOf a = .io → p.bus = .spec → busRead s a = ioRead s a := fun a ha hb => busRead_io s a hb ha
  refine ⟨fun hm => ?_, fun hm => ?_, rfl, rfl, rfl, rfl, fun hb => ?_⟩
  · refine ⟨congrArg Regs.reset hm, congrArg Interrupts.reset hm, congrArg Timer.reset hm, fun hb => ?_⟩
    rw [hread 0xFF04 (by decide) hb]
    exact congrArg (fun m => (Timer.reset m).div) hm
  · exact ⟨congrArg Regs.reset hm, congrArg Interrupts.reset hm, congrArg Timer.reset hm⟩
  · rw [hread 0xFF07 (by decide) hb]
    show (Timer.reset p.resetMode).readTac = 0xF8
    cases p.resetMode <;> rfl

/-- Power-on over memories in canonical form has the machine invariant, in both modes of RESET_MODE. -/
theorem powerOn_inv (p : Params) (img : Images) (hram : img.ram.wf = true) (hext : img.extRam.wf = true)
    (hrom : img.rom.wf = true) (hboot : img.bootRom.wf = true) (hwave : p.apu.postBootWave.wf = true) :
    Inv (State.powerOn p img) where
  ramWf := hram
  extRamWf := hext
  romWf := hrom
  waveRamWf := by
    show (waveReset p.apu p.resetMode).wf = true
    cases p.resetMode
    · exact hwave
    · rfl
  bootRomWf := hboot
  fLow := by
    show (Regs.reset p.resetMode).f &&& 0x0F = 0
    cases p.resetMode <;> decide
  lyRange _ := by
    show (Ppu.reset p.resetMode).ly.toNat < 154
    cases p.resetMode <;> decide
  dotRange _ := by
    show (Ppu.reset p.resetMode).dot < 456
    cases p.resetMode <;> decide
  lcdOff _ _ := by
    show (Ppu.reset p.resetMode).ly = 0 ∧ (Ppu.reset p.resetMode).dot = 0
    cases p.resetMode <;> decide
  subRange _ := by
    show (Timer.reset p.resetMode).sub < 256
    cases p.resetMode <;> decide
  oneSleep h := nomatch h.1
  latchParam h := nomatch h
  breakpointsRising := .nil

/-- Settles O59: `State.reset` is the power-on state over images that list nothing. -/
theorem resetHasInvariant : Obligations.ResetHasInvariant := by
  exact ⟨powerOn_inv Params.default Images.empty rfl rfl rfl rfl rfl, powerOn_inv⟩

/-! The system state of an instruction: cases of `exec_effect`. -/

theorem Effect.sameControl {i : Instr} {s t : State} (h : Effect i s t) : sameControl s t := by
  cases h with
  | regs | ime | stop => exact ⟨rfl, rfl, rfl, rfl, rfl, rfl⟩
  | store1 | store2 => simp [Machine.sameControl, State.withRegs]
  | halt => unfold haltStep; split <;> exact ⟨rfl, rfl, rfl, rfl, rfl, rfl⟩

theorem Effect.ime_eq {i : Instr} {s t : State} (h : Effect i s t) (hi : writesIme i = false) :
    t.intr.ime = s.intr.ime ∧ t.intr.eiPending = s.intr.eiPending := by
  cases h with
  | regs | stop => exact ⟨rfl, rfl⟩
  | store1 | store2 => simp [State.withRegs]
  | ime _ _ _ _ hm => exact nomatch hi.symm.trans hm
  | halt => unfold haltStep; split <;> exact ⟨rfl, rfl⟩

theorem Effect.halted_eq {i : Instr} {s t : State} (h : Effect i s t) (hi : i ≠ .halt) :
    t.halted = s.halted ∧ t.haltBugLatch = s.haltBugLatch := by
  cases h with
  | regs | ime | stop => exact ⟨rfl, rfl⟩
  | store1 | store2 => simp [State.withRegs]
  | halt h => exact absurd h hi

theorem Effect.stopped_eq {i : Instr} {s t : State} (h : Effect i s t) (hi : ∀ x, i ≠ .stop x) : t.stopped = s.stopped := by
  cases h with
  | regs | ime => rfl
  | store1 | store2 => simp [State.withRegs]
  | halt => unfold haltStep; split <;> rfl
  | stop x h => exact absurd h (hi x)

theorem Effect.devices_eq {i : Instr} {s t : State} (h : Effect i s t) (hs : storeAddrs i s = []) (hi : ∀ x, i ≠ .stop x) :
    t.intr.ie = s.intr.ie ∧ t.intr.ifl = s.intr.ifl ∧ t.timer = s.timer ∧ t.ppu = s.ppu ∧ t.apu = s.apu ∧ t.mbc = s.mbc ∧
      t.own = s.own := by
  cases h with
  | regs | ime => exact ⟨rfl, rfl, rfl, rfl, rfl, rfl, rfl⟩
  | store1 _ _ _ h | store2 _ _ _ _ _ h => exact nomatch hs.symm.trans h
  | halt => unfold haltStep; split <;> exact ⟨rfl, rfl, rfl, rfl, rfl, rfl, rfl⟩
  | stop x h => exact absurd h (hi x)

/-- Settles O35: every clause is a case analysis of `exec_effect`. -/
theorem systemFrame : Obligations.SystemFrame := by
  intro i s t h
  have e := exec_effect i s t h
  exact ⟨e.sameControl, e.ime_eq, e.halted_eq, e.stopped_eq, e.devices_eq⟩

/-! F under a mask (R25, R26). -/

/-- What F stores is its four flags. -/
theorem maskF_eq_packF (f : Byte) : maskF f = packF (f.getLsbD 7) (f.getLsbD 6) (f.getLsbD 5) (f.getLsbD 4) := by
  revert f
  decide

theorem packF_and_packF (z n h c z' n' h' c' : Bool) :
    packF z n h c &&& packF z' n' h' c' = packF (z && z') (n && n') (h && h') (c && c') := by
  revert z n h c z' n' h' c'
  decide

theorem and_packF (f : Byte) (z n h c : Bool) : f &&& packF z n h c =
    packF (f.getLsbD 7 && z) (f.getLsbD 6 && n) (f.getLsbD 5 && h) (f.getLsbD 4 && c) := by
  calc f &&& packF z n h c = f &&& maskF (packF z n h c) := by rw [maskF_packF]
    _ = maskF f &&& packF z n h c := by
      unfold maskF
      rw [BitVec.and_comm (packF z n h c), BitVec.and_assoc]
    _ = _ := by rw [maskF_eq_packF, packF_and_packF]

/-- F's low nibble is 0 when it is made of four flags. -/
theorem packF_low (z n h c : Bool) : packF z n h c &&& 0x0F = 0 := by
  rw [← maskF_packF]
  exact maskF_low _

/-- New flags agree with F under a mask when each flag that the mask holds is F's. -/
theorem packF_and_mask (f : Byte) (z n h c kz kn kh kc : Bool) (hz : kz = true → z = f.getLsbD 7)
    (hn : kn = true → n = f.getLsbD 6) (hh : kh = true → h = f.getLsbD 5) (hc : kc = true → c = f.getLsbD 4) :
    packF z n h c &&& packF kz kn kh kc = f &&& packF kz kn kh kc := by
  have keep : ∀ {k x y : Bool}, (k = true → x = y) → (x && k) = (y && k) := by
    intro k x y e
    cases k
    · rw [Bool.and_false, Bool.and_false]
    · rw [e rfl]
  rw [packF_and_packF, and_packF, keep hz, keep hn, keep hh, keep hc]

/-- F before (`f`) and after (`g`) an instruction that keeps the flags of the mask `k`: F is left whole, or written with its low
nibble 0 and the flags of `k` as they were. -/
def FlagsFrom (k f g : Byte) : Prop := g = f ∨ (k ≠ 0xF0 ∧ g &&& 0x0F = 0 ∧ g &&& k = f &&& k)

namespace FlagsFrom

theorem masked {k f g : Byte} (h : FlagsFrom k f g) : g &&& k = f &&& k := by
  rcases h with rfl | ⟨-, -, h⟩
  · rfl
  · exact h

theorem low {k f g : Byte} (h : FlagsFrom k f g) (hf : f &&& 0x0F = 0) : g &&& 0x0F = 0 := by
  rcases h with rfl | ⟨-, h, -⟩
  · exact hf
  · exact h

theorem whole {k f g : Byte} (h : FlagsFrom k f g) (hk : k = 0xF0) : g = f := by
  rcases h with rfl | ⟨h, -⟩
  · rfl
  · exact absurd hk h

/-- The empty mask asks for no flag: any masked write of F will do (R25). -/
theorem maskF (f v : Byte) : FlagsFrom 0x00 f (maskF v) :=
  .inr ⟨by decide, maskF_low v, BitVec.and_zero.trans BitVec.and_zero.symm⟩

theorem keepsC (f : Byte) (z n h : Bool) : FlagsFrom 0x10 f (packF z n h (f.getLsbD 4)) :=
  .inr ⟨by decide, packF_low _ _ _ _, packF_and_mask f z n h _ false false false true nofun nofun nofun fun _ => rfl⟩

theorem keepsZ (f : Byte) (n h c : Bool) : FlagsFrom 0x80 f (packF (f.getLsbD 7) n h c) :=
  .inr ⟨by decide, packF_low _ _ _ _, packF_and_mask f _ n h c true false false false (fun _ => rfl) nofun nofun nofun⟩

theorem keepsN (f : Byte) (z h c : Bool) : FlagsFrom 0x40 f (packF z (f.getLsbD 6) h c) :=
  .inr ⟨by decide, packF_low _ _ _ _, packF_and_mask f z _ h c false true false false nofun (fun _ => rfl) nofun nofun⟩

theorem keepsZC (f : Byte) (n h : Bool) : FlagsFrom 0x90 f (packF (f.getLsbD 7) n h (f.getLsbD 4)) :=
  .inr ⟨by decide, packF_low _ _ _ _,
    packF_and_mask f _ n h _ true false false true (fun _ => rfl) nofun nofun (fun _ => rfl)⟩

end FlagsFrom

/-! The register frame: one rule per write of the register file, then one lemma per shared operation. -/

/-- The register file of `t` is that of `s` but for the registers of `w`, SP if `p`, the flags outside the mask `k`, and pc. -/
structure RegsKept (s t : State) (w : List R8) (p : Bool) (k : Byte) : Prop where
  regs : ∀ r : R8, r ∉ w → t.r8 r = s.r8 r
  sp : p = false → t.sp = s.sp
  flags : FlagsFrom k s.regs.f t.regs.f

namespace RegsKept
variable {w : List R8} {p : Bool} {k : Byte} {s t : State}

theorem refl : RegsKept s s w p k := ⟨fun _ _ => rfl, fun _ => rfl, .inl rfl⟩

theorem of_regs_eq {u : State} (h : RegsKept s t w p k) (e : u.regs = t.regs) : RegsKept s u w p k := by
  have hr8 : ∀ r, u.r8 r = t.r8 r := fun r => by cases r <;> simp only [State.r8, e]
  exact ⟨fun r hr => (hr8 r).trans (h.regs r hr), fun hp => (congrArg Regs.sp e).trans (h.sp hp), e ▸ h.flags⟩

theorem setR8 (h : RegsKept s t w p k) (r : R8) (v : Byte) (hr : r ∈ w) : RegsKept s (t.setR8 r v) w p k where
  regs q hq := (State.r8_setR8_other t r q v (fun e => hq (e ▸ hr))).trans (h.regs q hq)
  sp hp := (State.setR8_regs_sp t r v).trans (h.sp hp)
  flags := (State.setR8_regs_f t r v).symm ▸ h.flags

theorem setPair (q r : R8) (h : RegsKept s t [q, r] p k) (x y : Byte) : RegsKept s ((t.setR8 q x).setR8 r y) [q, r] p k :=
  (h.setR8 q x List.mem_cons_self).setR8 r y (List.mem_cons_of_mem q List.mem_cons_self)

theorem bumpHl (h : RegsKept s t w p k) (hh : .h ∈ w) (hl : .l ∈ w) (d : Word) : RegsKept s (bumpHl d t) w p k :=
  (h.setR8 .h (hiByte (t.hl + d)) hh).setR8 .l (loByte (t.hl + d)) hl

theorem setPc (h : RegsKept s t w p k) (v : Word) : RegsKept s (t.setPc v) w p k := ⟨h.regs, h.sp, h.flags⟩

theorem setSp (h : RegsKept s t w true k) (v : Word) : RegsKept s (t.setSp v) w true k := ⟨h.regs, nofun, h.flags⟩

theorem setF {k' : Byte} (h : RegsKept s t w p k') {v : Byte} (hf : FlagsFrom k s.regs.f (maskF v)) :
    RegsKept s (t.setF v) w p k := ⟨h.regs, h.sp, hf⟩

theorem setFlags {k' : Byte} (h : RegsKept s t w p k') {z n f c : Bool} (hf : FlagsFrom k s.regs.f (packF z n f c)) :
    RegsKept s (t.setFlags z n f c) w p k := h.setF ((maskF_packF z n f c).symm ▸ hf)

theorem busWrite (h : RegsKept s t w p k) (a : Word) (v : Byte) : RegsKept s (busWrite t a v) w p k :=
  h.of_regs_eq (busWrite_regs t a v)

theorem whenCond (h : RegsKept s t w p k) (cc : Cond) : RegsKept s (whenCond cc t s) w p k := by
  unfold Machine.whenCond
  split
  · exact h
  · exact refl

end RegsKept

/-- The register of a location, as a list: none for the byte at HL (R23). -/
def Loc8.regs : Loc8 → List R8
  | .reg r => [r]
  | .atHl => []

/-- The registers of a pair of `rp`: none for SP (R24). -/
def R16.regs : R16 → List R8
  | .bc => [.b, .c]
  | .de => [.d, .e]
  | .hl => [.h, .l]
  | .sp => []

/-- The general registers of a pair of `rp2` (R24). -/
def Q16.regs : Q16 → List R8
  | .bc => [.b, .c]
  | .de => [.d, .e]
  | .hl => [.h, .l]
  | .af => [.a]

section
variable (s : State)

theorem setR16_kept (p : R16) (v : Word) : RegsKept s (s.setR16 p v) p.regs (p = .sp) 0xF0 := by
  cases p with
  | bc => exact RegsKept.refl.setPair .b .c (hiByte v) (loByte v)
  | de => exact RegsKept.refl.setPair .d .e (hiByte v) (loByte v)
  | hl => exact RegsKept.refl.setPair .h .l (hiByte v) (loByte v)
  | sp => exact RegsKept.refl.setSp v

theorem popPair_kept (p : Q16) : RegsKept s (popPair p s) p.regs true (if p = .af then 0x00 else 0xF0) := by
  have h : ∀ {w}, RegsKept s (popSp s) w true 0xF0 := RegsKept.refl.setSp _
  cases p with
  | bc => exact h.setPair .b .c (hiByte (popWord s)) (loByte (popWord s))
  | de => exact h.setPair .d .e (hiByte (popWord s)) (loByte (popWord s))
  | hl => exact h.setPair .h .l (hiByte (popWord s)) (loByte (popWord s))
  | af => exact (h.setR8 .a (hiByte (popWord s)) (List.mem_singleton_self _)).setF (.maskF _ (loByte (popWord s)))

theorem writeLoc_kept (l : Loc8) (v : Byte) : RegsKept s (s.writeLoc l v) l.regs false 0xF0 := by
  cases l with
  | reg r => exact RegsKept.refl.setR8 r v (List.mem_singleton_self r)
  | atHl => exact RegsKept.refl.busWrite _ v

theorem incLoc_kept (l : Loc8) : RegsKept s (incLoc l s) l.regs false 0x10 :=
  (writeLoc_kept s l _).setFlags (.keepsC _ _ _ _)

theorem decLoc_kept (l : Loc8) : RegsKept s (decLoc l s) l.regs false 0x10 :=
  (writeLoc_kept s l _).setFlags (.keepsC _ _ _ _)

theorem rotLoc_kept (op : Rot) (l : Loc8) : RegsKept s (rotLoc op l s) l.regs false 0x00 :=
  (writeLoc_kept s l _).setF (.maskF _ _)

theorem rotAcc_kept (op : Rot) : RegsKept s (rotAcc op s) [.a] false 0x00 :=
  (writeLoc_kept s (.reg .a) _).setF (.maskF _ _)

theorem bitTest_kept (b : BitVec 3) (l : Loc8) : RegsKept s (bitTest b l s) [] false 0x10 :=
  RegsKept.setFlags (k' := 0xF0) .refl (.keepsC _ _ _ _)

theorem aluStep_kept (op : AluOp) (v : Byte) : RegsKept s (aluStep op v s) (if op = .cp then [] else [.a]) false 0x00 := by
  cases op
  case cp => exact RegsKept.setF (k' := 0xF0) .refl (.maskF _ _)
  all_goals exact (writeLoc_kept s (.reg .a) _).setF (.maskF _ _)

theorem addHlStep_kept (p : R16) : RegsKept s (addHlStep p s) [.h, .l] false 0x80 :=
  (setR16_kept s .hl _).setFlags (.keepsZ _ _ _ _)

theorem daaStep_kept : RegsKept s (daaStep s) [.a] false 0x40 :=
  (writeLoc_kept s (.reg .a) _).setFlags (.keepsN _ _ _ _)

theorem cplStep_kept : RegsKept s (cplStep s) [.a] false 0x90 :=
  (writeLoc_kept s (.reg .a) _).setFlags (.keepsZC _ _ _)

theorem scfStep_kept : RegsKept s (scfStep s) [] false 0x80 := RegsKept.setFlags (k' := 0xF0) .refl (.keepsZ _ _ _ _)

theorem ccfStep_kept : RegsKept s (ccfStep s) [] false 0x80 := RegsKept.setFlags (k' := 0xF0) .refl (.keepsZ _ _ _ _)

theorem addSpStep_kept (e : Byte) : RegsKept s (addSpStep e s) [] true 0x00 :=
  (setR16_kept s .sp _).setF (.maskF _ _)

theorem ldHlFromSp_kept (e : Byte) : RegsKept s (ldHlFromSp e s) [.h, .l] false 0x00 :=
  (setR16_kept s .hl _).setF (.maskF _ _)

theorem push16_kept (v : Word) : RegsKept s (push16 s v) [] true 0xF0 :=
  (((RegsKept.refl.setSp _).busWrite _ _).setSp _).busWrite _ _

theorem callTo_kept (a : Word) : RegsKept s (callTo a s) [] true 0xF0 := (push16_kept s _).setPc a

theorem returnTo_kept : RegsKept s (returnTo s) [] true 0xF0 := (RegsKept.refl.setSp _).setPc _

theorem haltStep_kept : RegsKept s (haltStep s) [] false 0xF0 := by
  unfold haltStep
  split <;> exact ⟨fun _ _ => rfl, fun _ => rfl, .inl rfl⟩

/-- A CB-page byte, by its field x: rotate or shift, BIT, RES, SET (spec/30_encoding.md R83). -/
theorem cbStep_kept (o : Byte) : RegsKept s (cbStep o s) (destRegsCb o) false (keptFlagsCb o) := by
  unfold destRegsCb keptFlagsCb cbStep
  have hx : ∀ x : BitVec 2, x = 0 ∨ x = 1 ∨ x = 2 ∨ x = 3 := by decide
  rcases hx (o.extractLsb' 6 2) with h | h | h | h <;> rw [h]
  · exact rotLoc_kept s _ _
  · exact bitTest_kept s _ _
  · exact writeLoc_kept s _ _
  · exact writeLoc_kept s _ _

end

/-- The second byte of an instruction of the CB page, if it is one (R89). -/
def cbByte (i : Instr) : Option Byte :=
  match encode i with
  | [op, o] => if op = cbPrefix then some o else none
  | _ => none

theorem encode_of_cbByte {i : Instr} {o : Byte} (h : cbByte i = some o) : encode i = [cbPrefix, o] := by
  unfold cbByte at h
  split at h
  · next op o' he =>
    split at h
    · next hop => rw [he, hop, Option.some.inj h]
    · cases h
  · cases h

/-- Every row of the CB page is the CB-page operation of its byte (spec/44_rotate_shift_bit.md R204; spec/46_cpu_control.md
R267). -/
theorem exec_of_cbByte {i : Instr} {o : Byte} (h : cbByte i = some o) (s : State) : exec i s = .next (cbStep o s) := by
  cases i <;> cases h <;> rfl

/-- THE REGISTER FRAME OF EVERY INSTRUCTION: the CB page by its byte, the unprefixed page by the shared operation of each row. -/
theorem exec_kept (i : Instr) (s t : State) (h : exec i s = .next t) :
    RegsKept s t (writtenRegs i) (writesSp i) (keptFlags i) := by
  cases hc : cbByte i with
  | some o =>
    rw [exec_of_cbByte hc s] at h
    cases h
    have he := encode_of_cbByte hc
    unfold writtenRegs writesSp keptFlags
    rw [he]
    exact cbStep_kept s o
  | none =>
    cases i
    case nop | di | ei | stop => cases h; exact ⟨fun _ _ => rfl, fun _ => rfl, .inl rfl⟩
    case halt => cases h; exact haltStep_kept s
    case ldBB | ldBC | ldBD | ldBE | ldBH | ldBL | ldBAtHl | ldBA | ldCB | ldCC | ldCD | ldCE | ldCH | ldCL | ldCAtHl | ldCA |
        ldDB | ldDC | ldDD | ldDE | ldDH | ldDL | ldDAtHl | ldDA | ldEB | ldEC | ldED | ldEE | ldEH | ldEL | ldEAtHl | ldEA |
        ldHB | ldHC | ldHD | ldHE | ldHH | ldHL | ldHAtHl | ldHA | ldLB | ldLC | ldLD | ldLE | ldLH | ldLL | ldLAtHl | ldLA |
        ldAB | ldAC | ldAD | ldAE | ldAH | ldAL | ldAAtHl | ldAA | ldBN | ldCN | ldDN | ldEN | ldHN | ldLN | ldAN =>
      cases h; exact writeLoc_kept s (.reg _) _
    case ldAAtBc | ldAAtDe | ldhAAtN | ldAAtC | ldAAtNn => cases h; exact writeLoc_kept s (.reg .a) _
    case ldAtHlB | ldAtHlC | ldAtHlD | ldAtHlE | ldAtHlH | ldAtHlL | ldAtHlA | ldAtHlN | ldAtBcA | ldAtDeA | ldhAtNA | ldAtCA |
        ldAtNnA =>
      cases h; exact RegsKept.refl.busWrite _ _
    case ldAtNnSp => cases h; exact (RegsKept.refl.busWrite _ _).busWrite _ _
    case ldAtHlIncA | ldAtHlDecA => cases h; exact (RegsKept.refl.busWrite _ _).bumpHl (by decide) (by decide) _
    case ldAAtHlInc | ldAAtHlDec =>
      cases h; exact (RegsKept.refl.setR8 .a _ (by decide)).bumpHl (by decide) (by decide) _
    case ldSpHl => cases h; exact setR16_kept s .sp s.hl
    case ldBcNn | ldDeNn | ldHlNn | ldSpNn | incBc | incDe | incHl | incSp | decBc | decDe | decHl | decSp =>
      cases h; exact setR16_kept s _ _
    case ldHlSpE => cases h; exact ldHlFromSp_kept s _
    case addSpE => cases h; exact addSpStep_kept s _
    case addHlBc | addHlDe | addHlHl | addHlSp => cases h; exact addHlStep_kept s _
    case popBc | popDe | popHl | popAf => cases h; exact popPair_kept s _
    case pushBc | pushDe | pushHl | pushAf => cases h; exact push16_kept s _
    case incB | incC | incD | incE | incH | incL | incAtHl | incA => cases h; exact incLoc_kept s _
    case decB | decC | decD | decE | decH | decL | decAtHl | decA => cases h; exact decLoc_kept s _
    case rlca | rrca | rla | rra => cases h; exact rotAcc_kept s _
    case daa => cases h; exact daaStep_kept s
    case cpl => cases h; exact cplStep_kept s
    case scf => cases h; exact scfStep_kept s
    case ccf => cases h; exact ccfStep_kept s
    case addAB | addAC | addAD | addAE | addAH | addAL | addAAtHl | addAA | adcAB | adcAC | adcAD | adcAE | adcAH | adcAL |
        adcAAtHl | adcAA | subB | subC | subD | subE | subH | subL | subAtHl | subA | sbcAB | sbcAC | sbcAD | sbcAE | sbcAH |
        sbcAL | sbcAAtHl | sbcAA | andB | andC | andD | andE | andH | andL | andAtHl | andA | xorB | xorC | xorD | xorE | xorH |
        xorL | xorAtHl | xorA | orB | orC | orD | orE | orH | orL | orAtHl | orA | cpB | cpC | cpD | cpE | cpH | cpL | cpAtHl |
        cpA | addAN | adcAN | subN | sbcAN | andN | xorN | orN | cpN =>
      cases h; exact aluStep_kept s _ _
    case jrE | jpNn | jpHl => cases h; exact RegsKept.refl.setPc _
    case jrNzE | jrZE | jrNcE | jrCE | jpNzNn | jpZNn | jpNcNn | jpCNn => cases h; exact (RegsKept.refl.setPc _).whenCond _
    case callNn | rst00 | rst08 | rst10 | rst18 | rst20 | rst28 | rst30 | rst38 => cases h; exact callTo_kept s _
    case callNzNn | callZNn | callNcNn | callCNn => cases h; exact (callTo_kept s _).whenCond _
    case ret => cases h; exact returnTo_kept s
    case reti => cases h; exact (returnTo_kept s).of_regs_eq rfl
    case retNz | retZ | retNc | retC => cases h; exact (returnTo_kept s).whenCond _
    case illegalD3 | illegalDB | illegalDD | illegalE3 | illegalE4 | illegalEB | illegalEC | illegalED | illegalF4 |
        illegalFC | illegalFD => cases h
    all_goals cases hc

/-- Settles O33, the general registers and SP of `exec_kept`. -/
theorem registerFrame : Obligations.RegisterFrame := by
  intro i s t h
  have k := exec_kept i s t h
  exact ⟨k.regs, k.sp⟩

/-- Settles O34, F of `exec_kept`. -/
theorem flagFrame : Obligations.FlagFrame := by
  intro i s t h
  have k := (exec_kept i s t h).flags
  exact ⟨k.masked, k.low, k.whole⟩

/-! The first byte of a decoded instruction is the opcode it was decoded from (spec/30_encoding.md R84 to R86). -/

theorem encode_decodeCb_first (o : Byte) : (encode (decodeCb o)).headD 0 = cbPrefix := by
  revert o
  decide

/-- One cell of the opcode map at a time, whatever the immediate bytes are. -/
theorem encode_opcodeMap_first (op b1 b2 : Byte) : (encode (mapAt (plain .nop) opcodeMap op b1 b2)).headD 0 = op := by
  obtain ⟨n, hn, rfl⟩ : ∃ n, n < 256 ∧ op = BitVec.ofNat 8 n := ⟨op.toNat, op.isLt, by simp⟩
  interval_cases n <;> rfl

theorem encode_decodeBytes_first (op b1 b2 : Byte) : (encode (decodeBytes op b1 b2)).headD 0 = op := by
  unfold decodeBytes
  split
  · next h => rw [h, encode_decodeCb_first]
  · exact encode_opcodeMap_first op b1 b2

/-! The end of the EI delay writes IME and `ei_pending` alone (R34). -/

@[simp] theorem endEiDelay_regs (s : State) : (endEiDelay s).regs = s.regs := by
  unfold endEiDelay; split <;> rfl

@[simp] theorem endEiDelay_params (s : State) : (endEiDelay s).params = s.params := by
  unfold endEiDelay; split <;> rfl

@[simp] theorem endEiDelay_fault (s : State) : (endEiDelay s).fault = s.fault := by
  unfold endEiDelay; split <;> rfl

@[simp] theorem endEiDelay_halted (s : State) : (endEiDelay s).halted = s.halted := by
  unfold endEiDelay; split <;> rfl

@[simp] theorem endEiDelay_stopped (s : State) : (endEiDelay s).stopped = s.stopped := by
  unfold endEiDelay; split <;> rfl

@[simp] theorem endEiDelay_haltBugLatch (s : State) : (endEiDelay s).haltBugLatch = s.haltBugLatch := by
  unfold endEiDelay; split <;> rfl

@[simp] theorem endEiDelay_busRead (s : State) (a : Word) : busRead (endEiDelay s) a = busRead s a := by
  unfold endEiDelay; split <;> rfl

@[simp] theorem endEiDelay_pending (s : State) : pending (endEiDelay s) = pending s := by
  unfold endEiDelay; split <;> rfl

@[simp] theorem endEiDelay_pc (s : State) : (endEiDelay s).pc = s.pc := congrArg Regs.pc (endEiDelay_regs s)

@[simp] theorem endEiDelay_opcodeAt (s : State) : opcodeAt (endEiDelay s) = opcodeAt s := by simp [opcodeAt]

@[simp] theorem endEiDelay_ime (s : State) : (endEiDelay s).intr.ime = (s.intr.ime || s.intr.eiPending) := by
  unfold endEiDelay
  split
  · next h => simp [h]
  · next h => simp [h]

/-! The boundary of a step (spec/60_exceptions.md R291). -/

/-- In a state about to fetch, the step runs the instruction at pc after the end of the EI delay. -/
theorem step_of_aboutToFetch (s : State) (h : aboutToFetch s) : step s = runInstr (endEiDelay s) := by
  obtain ⟨hf, hs, hh, hi⟩ := h
  have hno : ¬(s.intr.ime = true ∧ pending s = true) := by
    rcases hi with hi | hi <;> simp [hi]
  have hb : atBoundary s = .fetch (endEiDelay s) := by
    unfold atBoundary
    rw [hf]
    simp [hs, haltCheck, hh, interruptCheck, hno]
  unfold step
  rw [hb]

theorem step_of_fault (s : State) (info : IllegalInstruction) (h : s.fault = some info) :
    step s = .fault (.illegalInstruction info) := by
  unfold step atBoundary
  rw [h]

/-- An illegal opcode about to be fetched faults, with its own byte and address (R281). -/
theorem step_of_illegal (s : State) (h : aboutToFetch s) (hi : isIllegal (opcodeAt s) = true) :
    step s = .fault (illegalAt s) := by
  rw [step_of_aboutToFetch s h]
  unfold runInstr
  simp [hi, illegalAt]

/-- The state in which a step runs its instruction: awake, the EI delay ended, pc past the bytes, the latch spent. -/
def fetched (s : State) : State := afterFetch (endEiDelay (awake s))

@[simp] theorem fetched_halted (s : State) : (fetched s).halted = false := endEiDelay_halted (awake s)

@[simp] theorem fetched_stopped (s : State) : (fetched s).stopped = false := endEiDelay_stopped (awake s)

@[simp] theorem fetched_haltBugLatch (s : State) : (fetched s).haltBugLatch = false := rfl

@[simp] theorem fetched_fault (s : State) : (fetched s).fault = s.fault := endEiDelay_fault (awake s)

@[simp] theorem fetched_params (s : State) : (fetched s).params = s.params := endEiDelay_params (awake s)

@[simp] theorem fetched_pending (s : State) : pending (fetched s) = pending s := endEiDelay_pending (awake s)

@[simp] theorem fetched_ime (s : State) : (fetched s).intr.ime = (s.intr.ime || s.intr.eiPending) :=
  endEiDelay_ime (awake s)

/-- `step_cases` with the instruction known by its first byte, the one at pc. -/
theorem step_effect (s t : State) (h : step s = .next t) :
    s.fault = none ∧
    ((s.halted = true ∧ pending s = false ∧ t = platformTick { s with stopped := false } idleCycles) ∨
     (s.intr.ime = true ∧ pending s = true ∧ t = platformTick (takeInterrupt (awake s)) dispatchCycles) ∨
     (∃ i u c, (encode i).headD 0 = busRead s s.pc ∧ exec i (fetched s) = .next u ∧ t = platformTick u c)) := by
  obtain ⟨hf, hidle | hdispatch | ⟨-, -, i, u, -, hi, hu, ht⟩⟩ := step_cases s t h
  · exact ⟨hf, .inl hidle⟩
  · exact ⟨hf, .inr (.inl hdispatch)⟩
  · refine ⟨hf, .inr (.inr ⟨i, u, _, ?_, hu, ht⟩)⟩
    rw [hi]
    exact (encode_decodeBytes_first _ _ _).trans (endEiDelay_opcodeAt (awake s))

/-! Faults (R36; spec/60_exceptions.md R281, R321). -/

theorem takeInterrupt_sameControl (s : State) : sameControl s (takeInterrupt s) := by
  unfold takeInterrupt
  simp [push16_eq, sameControl]

/-- A step that answers a next state starts and ends with no fault recorded. -/
theorem step_fault_none (s t : State) (h : step s = .next t) : s.fault = none ∧ t.fault = none := by
  obtain ⟨hf, ⟨-, -, rfl⟩ | ⟨-, -, rfl⟩ | ⟨i, u, c, -, hu, rfl⟩⟩ := step_effect s t h
  · exact ⟨hf, hf⟩
  · exact ⟨hf, (takeInterrupt_sameControl (awake s)).1.trans hf⟩
  · exact ⟨hf, (exec_effect _ _ _ hu).sameControl.1.trans ((fetched_fault s).trans hf)⟩

theorem run_of_fault (s : State) (info : IllegalInstruction) (n : Nat) (h : s.fault = some info)
    (hr : s.ctl.running = true) : run (n + 1) s = (stopRunning s, .faulted) := by
  simp [run, hr, h]

theorem run_of_illegal (s : State) (info : IllegalInstruction) (n : Nat) (hf : s.fault = none)
    (hr : s.ctl.running = true) (hs : step s = .fault (.illegalInstruction info)) :
    run (n + 1) s = (recordFault s info, .faulted) := by
  simp [run, hr, hf, hs]

/-- Settles O41: the step by `step_of_illegal`, the run call by its two faulting branches. -/
theorem illegalFaultIsPreciseAndFinal : Obligations.IllegalFaultIsPreciseAndFinal := by
  refine ⟨fun s h hi => ?_, fun s info n h => ⟨step_of_fault s info h, run_of_fault s info n h⟩, step_fault_none⟩
  have hstep := step_of_illegal s h (List.contains_iff_mem.mpr hi)
  exact ⟨hstep, fun n hr => run_of_illegal s _ n h.1 hr hstep⟩

/-! The HALT bug's latch (R35). -/

/-- With the latch set the bytes after the opcode are read from pc on, and pc advances one less. -/
theorem step_of_latch (s : State) (h : aboutToFetch s) (hl : s.haltBugLatch = true)
    (hi : isIllegal (opcodeAt s) = false) :
    let i := decodeBytes (busRead s s.pc) (busRead s s.pc) (busRead s (s.pc + 1))
    let u := ({ endEiDelay s with haltBugLatch := false }).setPc (s.pc + BitVec.ofNat 16 (lengthOfOpcode (busRead s s.pc) - 1))
    step s = tickAfter (exec i u) (instrCycles i u) := by
  have hp : operandPc (endEiDelay s) = s.pc := by simp [operandPc, hl]
  rw [step_of_aboutToFetch s h]
  unfold runInstr
  rw [endEiDelay_opcodeAt, hi]
  unfold instrAt afterFetch
  rw [hp, endEiDelay_opcodeAt]
  simp only [endEiDelay_busRead]
  rfl

/-- HALT alone sets the latch, and only under HALT_BUG with IME = 0 and a source pending. -/
theorem exec_sets_latch (i : Instr) (s u : State) (h : exec i s = .next u) (hs : s.haltBugLatch = false)
    (hu : u.haltBugLatch = true) : i = .halt ∧ s.params.haltBug = true ∧ s.intr.ime = false ∧ pending s = true := by
  by_cases hi : i = .halt
  · subst hi
    cases h
    refine ⟨rfl, ?_⟩
    by_contra hn
    unfold haltStep at hu
    rw [if_neg hn] at hu
    exact nomatch hs.symm.trans hu
  · have e := ((exec_effect i s u h).halted_eq hi).2
    exact nomatch (e.trans hs).symm.trans hu

theorem takeInterrupt_haltBugLatch (s : State) : (takeInterrupt s).haltBugLatch = s.haltBugLatch := by
  unfold takeInterrupt
  simp [push16_eq]

/-- A step that sets the latch is HALT's. -/
theorem step_sets_latch (s t : State) (h : step s = .next t) (hs : s.haltBugLatch = false) (ht : t.haltBugLatch = true) :
    s.params.haltBug = true ∧ busRead s s.pc = 0x76 ∧ s.intr.ime = false ∧ s.intr.eiPending = false ∧ pending s = true := by
  obtain ⟨-, ⟨-, -, rfl⟩ | ⟨-, -, rfl⟩ | ⟨i, u, c, hop, hu, rfl⟩⟩ := step_effect s t h
  · exact nomatch hs.symm.trans ht
  · exact nomatch ((takeInterrupt_haltBugLatch (awake s)).trans hs).symm.trans ht
  · obtain ⟨rfl, hbug, hime, hp⟩ := exec_sets_latch i _ u hu (fetched_haltBugLatch s) ht
    rw [fetched_ime, Bool.or_eq_false_iff] at hime
    exact ⟨fetched_params s ▸ hbug, hop.symm, hime.1, hime.2, fetched_pending s ▸ hp⟩

/-- Settles O37: the double fetch by `step_of_latch`, where the latch comes from by `step_sets_latch`. -/
theorem haltBugFetchesTwice : Obligations.HaltBugFetchesTwice := by
  exact ⟨step_of_latch, step_sets_latch⟩

/-! Who writes IME (R30, R34). -/

theorem exec_sets_ime (i : Instr) (s u : State) (h : exec i s = .next u) (hs : s.intr.ime = false)
    (hu : u.intr.ime = true) : i = .reti := by
  cases hw : writesIme i
  · have e := ((exec_effect i s u h).ime_eq hw).1
    exact nomatch (e.trans hs).symm.trans hu
  · cases i
    case reti => rfl
    case di => cases h; cases hu
    case ei => cases h; exact nomatch hs.symm.trans hu
    all_goals cases hw

theorem exec_clears_ime (i : Instr) (s u : State) (h : exec i s = .next u) (hs : s.intr.ime = true)
    (hu : u.intr.ime = false) : i = .di := by
  cases hw : writesIme i
  · have e := ((exec_effect i s u h).ime_eq hw).1
    exact nomatch (e.trans hs).symm.trans hu
  · cases i
    case di => rfl
    case reti => cases h; cases hu
    case ei => cases h; exact nomatch hs.symm.trans hu
    all_goals cases hw

/-- Settles O43: an idle step keeps IME, dispatch starts with IME set and a source pending, and of the instructions RETI alone
sets IME and DI alone clears it. -/
theorem whoWritesIme : Obligations.WhoWritesIme := by
  intro s t h
  obtain ⟨-, ⟨-, -, rfl⟩ | ⟨hime, hp, rfl⟩ | ⟨i, u, c, hop, hu, rfl⟩⟩ := step_effect s t h
  · exact ⟨fun hs ht => (nomatch hs.symm.trans ht), fun hs ht => (nomatch hs.symm.trans ht)⟩
  · exact ⟨fun hs => (nomatch hs.symm.trans hime), fun _ _ => .inl hp⟩
  · refine ⟨fun hs ht => ?_, fun hs ht => .inr ?_⟩
    · cases he : s.intr.eiPending
      · rw [exec_sets_ime i _ u hu (by simp [hs, he]) ht] at hop
        exact .inr hop.symm
      · exact .inl rfl
    · rw [exec_clears_ime i _ u hu (by simp [hs]) ht] at hop
      exact hop.symm

/-! The devices' part of the invariant (spec/60_exceptions.md R310, R313, R342, R346). -/

/-- What the machine invariant says of the timer and the PPU of the spec's platform. -/
structure DevicesInRange (t : Timer) (p : Ppu) : Prop where
  ly : p.ly.toNat < 154
  dot : p.dot < 456
  off : p.on = false → p.ly = 0 ∧ p.dot = 0
  sub : t.sub < 256

theorem Inv.devices {s : State} (h : Inv s) (hp : s.params.specPlatform) : DevicesInRange s.timer s.ppu :=
  ⟨h.lyRange hp, h.dotRange hp, h.lcdOff hp, h.subRange hp⟩

/-- A write of LCDC leaves the LCD on where it was, or stands at line 0, dot 0. -/
theorem writeLcdc_inRange {t : Timer} {p : Ppu} (h : DevicesInRange t p) (v : Byte) : DevicesInRange t (p.writeLcdc v) := by
  unfold Ppu.writeLcdc
  split
  · next hon =>
    rw [Bool.and_eq_true] at hon
    exact { h with off := fun hoff => nomatch hon.2.symm.trans hoff }
  · exact ⟨Nat.zero_lt_succ _, Nat.zero_lt_succ _, fun _ => ⟨rfl, rfl⟩, h.sub⟩

theorem ioWrite_inRange (s : State) (a : Word) (v : Byte) (h : DevicesInRange s.timer s.ppu) :
    DevicesInRange (ioWrite s a v).timer (ioWrite s a v).ppu := by
  unfold ioWrite
  cases ioRegOf a
  case lcdc => exact writeLcdc_inRange h v
  all_goals exact { h with }

theorem mapWrite_inRange (s : State) (a : Word) (v : Byte) (h : DevicesInRange s.timer s.ppu) :
    DevicesInRange (mapWrite s a v).timer (mapWrite s a v).ppu := by
  unfold mapWrite
  cases regionOf a
  case io => exact ioWrite_inRange s a v h
  case extRam => dsimp only; split <;> exact h
  all_goals exact h

theorem timerTick_sub (t : Timer) (ifl : BitVec 5) (c : Nat) (h : t.sub < 256) : (timerTick t ifl c).1.sub < 256 := by
  obtain ⟨x, n, y, e, -, hn⟩ := timerTick_spec t ifl c
  rw [e]
  rcases hn with rfl | hn
  · exact h
  · exact hn

theorem specTick_inRange (s : State) (c : Nat) (h : DevicesInRange s.timer s.ppu) :
    DevicesInRange (specTick s c).1.timer (specTick s c).1.ppu := by
  obtain ⟨y, d, f, e, -, hrange, hoff⟩ := ppuTick_spec s.ppu (timerTick s.timer s.intr.ifl c).2 (4 * c)
  obtain ⟨hy, hd⟩ := hrange h.ly h.dot
  have hppu : (specTick s c).1.ppu = { s.ppu with ly := y, dot := d } := congrArg Prod.fst e
  rw [hppu]
  refine ⟨hy, hd, fun hon => ?_, timerTick_sub s.timer s.intr.ifl c h.sub⟩
  obtain ⟨rfl, rfl⟩ := hoff hon
  exact h.off hon

/-! The machine invariant over every operation of a step. -/

namespace Inv
variable {s t : State}

theorem withRegs (h : Inv s) (r : Regs) (hf : r.f &&& 0x0F = 0) : Inv (s.withRegs r) := { h with fLow := hf }

theorem withIntr (h : Inv s) (x : Interrupts) : Inv { s with intr := x } := { h with }

/-- An operation that writes the memories, the devices and nothing else the invariant speaks of. -/
theorem withDevices (h : Inv s) (hram : t.ram.wf = true) (hext : t.extRam.wf = true) (hwave : t.waveRam.wf = true)
    (hregs : t.regs = s.regs) (hbps : t.ctl.breakpoints = s.ctl.breakpoints) (hparams : t.params = s.params)
    (hrom : t.rom = s.rom) (hboot : t.bootRom = s.bootRom) (hhalted : t.halted = s.halted)
    (hstopped : t.stopped = s.stopped) (hlatch : t.haltBugLatch = s.haltBugLatch)
    (hd : s.params.specPlatform → DevicesInRange t.timer t.ppu) : Inv t where
  ramWf := hram
  extRamWf := hext
  waveRamWf := hwave
  romWf := hrom ▸ h.romWf
  bootRomWf := hboot ▸ h.bootRomWf
  fLow := hregs ▸ h.fLow
  lyRange hp := (hd (hparams ▸ hp)).ly
  dotRange hp := (hd (hparams ▸ hp)).dot
  lcdOff hp := (hd (hparams ▸ hp)).off
  subRange hp := (hd (hparams ▸ hp)).sub
  oneSleep := by rw [hhalted, hstopped]; exact h.oneSleep
  latchParam := by rw [hlatch, hparams]; exact h.latchParam
  breakpointsRising := hbps ▸ h.breakpointsRising

theorem busWrite (h : Inv s) (a : Word) (v : Byte) : Inv (busWrite s a v) := by
  have hd : s.params.specPlatform → DevicesInRange (Machine.busWrite s a v).timer (Machine.busWrite s a v).ppu := by
    intro hp
    rw [busWrite_spec s a v hp.1]
    exact mapWrite_inRange s a v (h.devices hp)
  refine h.withDevices (busWrite_ram_wf s a v h.ramWf) (busWrite_extRam_wf s a v h.extRamWf)
    (busWrite_waveRam_wf s a v h.waveRamWf) ?_ ?_ ?_ ?_ ?_ ?_ ?_ ?_ hd <;> simp

theorem platformTick (h : Inv s) (c : Nat) : Inv (platformTick s c) := by
  refine h.withDevices h.ramWf h.extRamWf h.waveRamWf rfl rfl rfl rfl rfl rfl rfl rfl fun hp => ?_
  show DevicesInRange (deviceTick s c).1.timer (deviceTick s c).1.ppu
  rw [deviceTick_spec s c hp.2]
  exact specTick_inRange s c (h.devices hp)

theorem takeInterrupt (h : Inv s) : Inv (takeInterrupt s) := by
  unfold Machine.takeInterrupt
  dsimp only
  rw [push16_eq]
  exact (((h.withIntr _).busWrite _ _).busWrite _ _).withRegs _ (by simpa using h.fLow)

theorem awake (h : Inv s) : Inv (awake s) := { h with oneSleep := fun hb => nomatch hb.1 }

theorem notStopped (h : Inv s) : Inv { s with stopped := false } := { h with oneSleep := fun hb => nomatch hb.2 }

theorem endEiDelay (h : Inv s) : Inv (endEiDelay s) := by
  unfold Machine.endEiDelay
  split
  · exact h.withIntr _
  · exact h

theorem fetched (h : Inv s) : Inv (fetched s) := { h.awake.endEiDelay with latchParam := fun hl => nomatch hl }

/-- HALT sets the latch only under HALT_BUG, and sleeps only while not stopped. -/
theorem haltStep (h : Inv s) (hs : s.stopped = false) : Inv (haltStep s) := by
  unfold Machine.haltStep
  split
  · next hbug => exact { h with latchParam := fun _ => hbug.1 }
  · exact { h with oneSleep := fun hb => nomatch hs.symm.trans hb.2 }

theorem stopStep (h : Inv s) (hs : s.halted = false) : Inv (stopStep s) :=
  { h with oneSleep := fun hb => nomatch hs.symm.trans hb.1 }

/-- Every instruction keeps the invariant, run from a state that is awake. -/
theorem exec {i : Instr} (h : Inv s) (hh : s.halted = false) (hs : s.stopped = false) (he : exec i s = .next t) : Inv t := by
  have hf := (exec_kept i s t he).flags.low h.fLow
  cases exec_effect i s t he with
  | regs r => exact h.withRegs r hf
  | store1 a v r => exact (h.busWrite a v).withRegs r hf
  | store2 a b v w r => exact ((h.busWrite a v).busWrite b w).withRegs r hf
  | ime r x y => exact (h.withRegs r hf).withIntr _
  | halt => exact h.haltStep hs
  | stop => exact h.stopStep hh

end Inv

/-- Settles O58: an idle step, a dispatch and an instruction each keep the invariant, and so does the tick after them. -/
theorem stepKeepsInvariant : Obligations.StepKeepsInvariant := by
  intro s t h hstep
  obtain ⟨-, ⟨-, -, rfl⟩ | ⟨-, -, rfl⟩ | ⟨i, u, c, -, hu, rfl⟩⟩ := step_effect s t hstep
  · exact h.notStopped.platformTick idleCycles
  · exact h.awake.takeInterrupt.platformTick dispatchCycles
  · exact (h.fetched.exec (fetched_halted s) (fetched_stopped s) hu).platformTick c

end Sys2Proof.Machine
end

section
/-! PROOFS of the family 20_memory: the bus by region, ROM, and what an instruction's stores leave readable as before. -/

namespace Sys2Proof.Machine

/-! RAM behind an address, and the echo (spec/20_memory.md R53, R54, R59). -/

theorem ramKey_wram (a : Word) (h : regionOf a = .wram) : ramKey a = some a.toNat := by
  unfold ramKey
  rw [h]

theorem ramKey_hram (a : Word) (h : regionOf a = .hram) : ramKey a = some a.toNat := by
  unfold ramKey
  rw [h]

theorem ramKey_echo (a : Word) (h : regionOf a = .echo) : ramKey a = some (echoOf a).toNat := by
  unfold ramKey
  rw [h]

/-- The address an echo address mirrors is one of work RAM (R54). -/
theorem regionOf_echoOf (a : Word) (h : regionOf a = .echo) : regionOf (echoOf a) = .wram := by
  have hrange := (regionOf_echo a).mp h
  rw [regionOf_wram, echoOf_toNat a h]
  omega

theorem ramKey_echoOf (a : Word) (h : regionOf a = .echo) : ramKey (echoOf a) = ramKey a := by
  rw [ramKey_wram _ (regionOf_echoOf a h), ramKey_echo a h]

/-- With the spec's BUS a read of a RAM address is a read of its byte. -/
theorem busRead_ramKey (s : State) (a : Word) (k : Nat) (hb : s.params.bus = .spec) (h : ramKey a = some k) :
    busRead s a = s.ram.read k := by
  rw [busRead_spec s a hb, mapRead_ramKey s a k h]

/-- With the spec's BUS a write to a RAM address stores its byte. -/
theorem busWrite_ramKey (s : State) (a : Word) (v : Byte) (k : Nat) (hb : s.params.bus = .spec) (h : ramKey a = some k) :
    busWrite s a v = s.storeRam k v := by
  rw [busWrite_spec s a v hb, mapWrite_ramKey s a v k h]

/-- An echo address reads and writes the byte of the address it mirrors (R54). -/
theorem bus_echo (s : State) (a : Word) (v : Byte) (hb : s.params.bus = .spec) (h : regionOf a = .echo) :
    busRead s a = busRead s (echoOf a) ∧ busWrite s a v = busWrite s (echoOf a) v := by
  have hk := ramKey_echo a h
  have hk' := (ramKey_echoOf a h).trans hk
  constructor
  · rw [busRead_ramKey s a _ hb hk, busRead_ramKey s (echoOf a) _ hb hk']
  · rw [busWrite_ramKey s a v _ hb hk, busWrite_ramKey s (echoOf a) v _ hb hk']

/-! The regions that drop a write (R55, R57). -/

theorem bus_unusable (s : State) (a : Word) (v : Byte) (hb : s.params.bus = .spec) (h : regionOf a = .unusable) :
    busRead s a = s.params.unusableRead ∧ busWrite s a v = s := by
  rw [busRead_spec s a hb, busWrite_spec s a v hb]
  unfold mapRead mapWrite
  rw [h]
  exact ⟨rfl, rfl⟩

/-- External RAM that does not answer, whether disabled or not there. -/
theorem bus_extRam_off (s : State) (a : Word) (v : Byte) (hb : s.params.bus = .spec) (h : regionOf a = .extRam)
    (hoff : extRamOn s.params s.mbc = false) : busRead s a = 0xFF ∧ busWrite s a v = s := by
  rw [busRead_spec s a hb, busWrite_spec s a v hb]
  unfold mapRead mapWrite
  rw [h, hoff]
  exact ⟨rfl, rfl⟩

theorem extRamOn_disabled (p : Params) (m : Mbc) (h : m.ramEnabled = false) : extRamOn p m = false := by
  rw [extRamOn, h, Bool.false_and]

/-- Settles O45: the first and the last clause by the byte of RAM behind the address, the others by the address's region. -/
theorem busRegions : Obligations.BusRegions := by
  refine ⟨busRead_busWrite_same, fun s a v hb h1 h2 => bus_echo s a v hb ((regionOf_echo a).mpr ⟨h1, h2⟩),
    fun s a v hb h1 h2 => bus_unusable s a v hb ((regionOf_unusable a).mpr ⟨h1, h2⟩),
    fun s a v hb h1 h2 hoff => bus_extRam_off s a v hb ((regionOf_extRam a).mpr ⟨h1, h2⟩) (extRamOn_disabled _ _ hoff),
    fun s a v hb h => ?_⟩
  have hk : ramKey a = some a.toNat := by
    rcases h with h | h
    · exact ramKey_wram a ((regionOf_wram a).mpr h)
    · exact ramKey_hram a ((regionOf_hram a).mpr h)
  exact ⟨busRead_ramKey s a _ hb hk, busWrite_ramKey s a v _ hb hk⟩

/-! ROM: writes are commands to the MBC, reads are of the image (R56; spec/60_exceptions.md R360). -/

/-- A write to ROM's addresses is a command to the MBC and nothing else. -/
theorem busWrite_romAddress (s : State) (a : Word) (v : Byte) (hb : s.params.bus = .spec) (h : a.toNat < 0x8000) :
    busWrite s a v = { s with mbc := mbcWrite s.params s.mbc a v } := by
  have hr : regionOf a = .romFixed ∨ regionOf a = .romBanked := by
    rw [regionOf_romFixed, regionOf_romBanked]
    omega
  rw [busWrite_spec s a v hb]
  unfold mapWrite
  rcases hr with hr | hr <;> rw [hr]

/-- The fixed window with no boot ROM over it reads the image's first bank. -/
theorem busRead_romFixed (s : State) (b : Word) (hb : s.params.bus = .spec) (h : b.toNat < 0x4000)
    (ho : s.bootOverlay = false) : busRead s b = s.rom.read b.toNat := by
  rw [busRead_spec s b hb]
  unfold mapRead
  rw [(regionOf_romFixed b).mpr ⟨Nat.zero_le _, h⟩, ho]
  rfl

/-- The switchable window reads the selected bank, modulo the banks present. -/
theorem busRead_romBanked (s : State) (b : Word) (hb : s.params.bus = .spec) (h : regionOf b = .romBanked) :
    busRead s b = s.rom.read (romOffset s.params s.mbc b) := by
  rw [busRead_spec s b hb]
  unfold mapRead
  rw [h]

theorem ioWrite_bootOverlay_off (s : State) (a : Word) (v : Byte) (h : s.bootOverlay = false) :
    (ioWrite s a v).bootOverlay = false := by
  unfold ioWrite
  cases ioRegOf a
  case bootOff => rfl
  all_goals exact h

theorem mapWrite_bootOverlay_off (s : State) (a : Word) (v : Byte) (h : s.bootOverlay = false) :
    (mapWrite s a v).bootOverlay = false := by
  unfold mapWrite
  cases regionOf a
  case io => exact ioWrite_bootOverlay_off s a v h
  case extRam => dsimp only; split <;> exact h
  all_goals exact h

/-- No write puts the boot ROM back over the fixed window (spec/70_reset_and_hazards.md R372). -/
theorem busWrite_bootOverlay_off (s : State) (a : Word) (v : Byte) (h : s.bootOverlay = false) :
    (busWrite s a v).bootOverlay = false := by
  cases hb : s.params.bus with
  | spec =>
    rw [busWrite_spec s a v hb]
    exact mapWrite_bootOverlay_off s a v h
  | given k =>
    rw [busWrite_given s a v k hb]
    obtain ⟨-, e⟩ | ⟨-, e⟩ | ⟨-, e⟩ := givenWrite_cases k s a v <;> (rw [e]; exact h)

/-- The cartridge image and the boot ROM are among what `sameControl` keeps. -/
theorem sameControl.images {s t : State} (h : sameControl s t) : t.rom = s.rom ∧ t.bootRom = s.bootRom := by
  obtain ⟨-, -, -, hrom, hboot, -⟩ := h
  exact ⟨hrom, hboot⟩

theorem fetched_sameControl (s : State) : sameControl s (fetched s) := by
  unfold fetched endEiDelay
  split <;> exact ⟨rfl, rfl, rfl, rfl, rfl, rfl⟩

/-- No step writes an image: not an idle one, not a dispatch, not an instruction, and not the tick after them. -/
theorem step_images (s t : State) (h : step s = .next t) : t.rom = s.rom ∧ t.bootRom = s.bootRom := by
  obtain ⟨-, ⟨-, -, rfl⟩ | ⟨-, -, rfl⟩ | ⟨i, u, c, -, hu, rfl⟩⟩ := step_effect s t h
  · exact ⟨rfl, rfl⟩
  · exact (takeInterrupt_sameControl (awake s)).images
  · obtain ⟨hrom, hboot⟩ := (exec_effect i _ u hu).sameControl.images
    obtain ⟨hrom', hboot'⟩ := (fetched_sameControl s).images
    exact ⟨hrom.trans hrom', hboot.trans hboot'⟩

/-- Settles O47: the write by `busWrite_romAddress`, the step by `step_images`, the reads by the two windows' equations. -/
theorem romNeverChanges : Obligations.RomNeverChanges := by
  refine ⟨fun s a v hb h => ?_, step_images, fun s a b v hb h ho => ?_,
    fun s b hb h1 h2 => busRead_romBanked s b hb ((regionOf_romBanked b).mpr ⟨h1, h2⟩)⟩
  · rw [busWrite_romAddress s a v hb h]
  · rw [busRead_romFixed (busWrite s a v) b ((congrArg Params.bus (busWrite_params s a v)).trans hb) h
      (busWrite_bootOverlay_off s a v ho), busWrite_rom]

/-! The memory frame of an instruction: a case of `exec_effect` (R52, R53, R64). -/

/-- No read of the bus looks at IME or at `ei_pending`. -/
theorem busRead_withIme (s : State) (x y : Bool) (b : Word) :
    busRead { s with intr := { s.intr with ime := x, eiPending := y } } b = busRead s b := rfl

theorem haltStep_busRead (s : State) (b : Word) : busRead (haltStep s) b = busRead s b := by
  unfold haltStep
  split <;> rfl

/-- STOP resets DIV and stores nothing (spec/46_cpu_control.md R263). -/
theorem stopStep_busRead (s : State) (b : Word) (h : divTouches s.params.bus b = false) :
    busRead (stopStep s) b = busRead s b :=
  busRead_resetDiv s b h

/-- A byte that neither of two stores touches reads as before. -/
theorem busRead_busWrite_two (s : State) (a c b : Word) (v w : Byte) (ha : touches s.params.bus a b = false)
    (hc : touches s.params.bus c b = false) : busRead (busWrite (busWrite s a v) c w) b = busRead s b := by
  rw [busRead_busWrite_frame _ c b w (by rw [busWrite_params]; exact hc), busRead_busWrite_frame s a b v ha]

/-- What no store of the instruction touches, and the reset of DIV neither where it is STOP, reads as before. -/
theorem Effect.busRead_eq {i : Instr} {s t : State} (h : Effect i s t) (b : Word)
    (hst : ∀ a ∈ storeAddrs i s, touches s.params.bus a b = false)
    (hdiv : ∀ x, i = .stop x → divTouches s.params.bus b = false) : busRead t b = busRead s b := by
  cases h with
  | regs r => exact busRead_withRegs s r b
  | store1 a v r hs =>
    rw [hs, List.forall_mem_singleton] at hst
    exact busRead_busWrite_frame s a b v hst
  | store2 a c v w r hs =>
    rw [hs, List.forall_mem_cons, List.forall_mem_singleton] at hst
    obtain ⟨ha, hc⟩ := hst
    exact busRead_busWrite_two s a c b v w ha hc
  | ime r x y => exact busRead_withIme (s.withRegs r) x y b
  | halt => exact haltStep_busRead s b
  | stop x hi => exact stopStep_busRead s b (hdiv x hi)

/-- Settles O32: the memory frame of everything an instruction can do. -/
theorem memoryFrame : Obligations.MemoryFrame := by
  intro i s t h b hst hdiv
  exact (exec_effect i s t h).busRead_eq b hst hdiv

end Sys2Proof.Machine
end

section
/-! PROOFS of the family 30_encoding: the decoder and the encoder undo each other, which instructions complete, and the jumps. -/

namespace Sys2Proof.Machine

/-! Decoding what is encoded (spec/30_encoding.md R75, R77, R84 to R86). -/

/-- Every instruction is a first byte and as many bytes after it as the first one says (R75, R77). -/
theorem encode_cons (i : Instr) : ∃ op tail, encode i = op :: tail ∧ lengthOfOpcode op = tail.length + 1 := by
  cases i <;> exact ⟨_, _, rfl, rfl⟩

/-- Decoding takes as many bytes as the first one says, and leaves the rest (R86). -/
theorem decode_append (op : Byte) (tail rest : List Byte) (hl : lengthOfOpcode op = tail.length + 1) :
    decode (op :: tail ++ rest) = .ok (decodeBytes op ((tail ++ rest).getD 0 0) ((tail ++ rest).getD 1 0), rest) := by
  rw [List.cons_append, decode_cons op (tail ++ rest) (by rw [hl, List.length_append]; omega), hl, Nat.add_sub_cancel,
    List.drop_left]

/-- A row of the CB page is the row of its second byte (R85). PREFIX CB has such a byte too and is no row (R267). -/
theorem decodeCb_of_cbByte {i : Instr} {o : Byte} (h : cbByte i = some o) (hw : i.WellFormed = true) : decodeCb o = i := by
  cases i
  case prefixCb => cases hw
  all_goals cases h <;> rfl

/-- The bytes of an encoding, and whatever follows, decode to the instruction: the CB page by its second byte; a 16-bit
immediate is put together again from its two bytes (R79); any other row is its cell of the opcode map (R84). -/
theorem decodeBytes_of_encode {i : Instr} {op : Byte} {tail : List Byte} (he : encode i = op :: tail) (rest : List Byte)
    (hw : i.WellFormed = true) : decodeBytes op ((tail ++ rest).getD 0 0) ((tail ++ rest).getD 1 0) = i := by
  cases hc : cbByte i with
  | some o =>
    cases (encode_of_cbByte hc).symm.trans he
    exact decodeCb_of_cbByte hc hw
  | none =>
    cases i
    case ldBcNn nn | ldDeNn nn | ldHlNn nn | ldSpNn nn | ldAtNnSp nn | ldAtNnA nn | ldAAtNn nn | jpNn nn | jpNzNn nn |
        jpZNn nn | jpNcNn nn | jpCNn nn | callNn nn | callNzNn nn | callZNn nn | callNcNn nn | callCNn nn =>
      cases he
      exact congrArg _ (mkWord_hi_lo nn)
    all_goals
      cases he
      cases hc <;> rfl

/-- Settles O2: the encoding has the length its first byte says, and its bytes decode to the instruction. -/
theorem decodeEncodeAgree : Obligations.DecodeEncodeAgree := by
  intro i rest hw
  obtain ⟨op, tail, he, hl⟩ := encode_cons i
  rw [he, decode_append op tail rest hl, decodeBytes_of_encode he rest hw]

/-! Encoding what is decoded (R75, R77, R84, R85, R88). -/

/-- Every byte begins an instruction of 1 to 3 bytes (R75, R88). -/
theorem lengthOfOpcode_range (op : Byte) : 1 ≤ lengthOfOpcode op ∧ lengthOfOpcode op ≤ 3 := by
  revert op
  decide

theorem encode_decodeCb (o : Byte) : encode (decodeCb o) = [cbPrefix, o] := by
  revert o
  decide

/-- One cell of the opcode map at a time: a three-byte row's word is written back as its low and high bytes (R79), any other
row as the opcode and at most the byte after it. -/
theorem encode_opcodeMap_cell (op b1 b2 : Byte) :
    encode (mapAt (plain .nop) opcodeMap op b1 b2) =
      if lengthOfOpcode op = 3 then [op, loByte (mkWord b2 b1), hiByte (mkWord b2 b1)]
      else [op, b1].take (lengthOfOpcode op) := by
  obtain ⟨n, hn, rfl⟩ : ∃ n, n < 256 ∧ op = BitVec.ofNat 8 n := ⟨op.toNat, op.isLt, by simp⟩
  interval_cases n <;> rfl

theorem encode_opcodeMap (op b1 b2 : Byte) :
    encode (mapAt (plain .nop) opcodeMap op b1 b2) = [op, b1, b2].take (lengthOfOpcode op) := by
  rw [encode_opcodeMap_cell, loByte_mkWord, hiByte_mkWord]
  obtain ⟨h1, h3⟩ := lengthOfOpcode_range op
  generalize lengthOfOpcode op = n at h1 h3 ⊢
  interval_cases n <;> rfl

/-- The bytes of a decoded instruction are the bytes it was decoded from. -/
theorem encode_decodeBytes (op b1 b2 : Byte) :
    encode (decodeBytes op b1 b2) = [op, b1, b2].take (lengthOfOpcode op) := by
  unfold decodeBytes
  split
  · next h => rw [encode_decodeCb, h]; rfl
  · exact encode_opcodeMap op b1 b2

/-- Settles O3: the bytes by `encode_decodeBytes`, the length by the first byte alone. -/
theorem encodeDecodeAgree : Obligations.EncodeDecodeAgree := by
  intro op b1 b2
  obtain ⟨h1, h3⟩ := lengthOfOpcode_range op
  exact ⟨encode_decodeBytes op b1 b2, h1, h3, fun h => by rw [h]; rfl⟩

/-! Which instructions complete (R87; spec/46_cpu_control.md R261). -/

/-- Every instruction but those of the illegal opcodes answers a next state. -/
theorem exec_completes (i : Instr) (s : State) (h : isIllegal ((encode i).headD 0) = false) : ∃ t, exec i s = .next t := by
  cases i
  case illegalD3 | illegalDB | illegalDD | illegalE3 | illegalE4 | illegalEB | illegalEC | illegalED | illegalF4 |
      illegalFC | illegalFD => cases h
  all_goals exact ⟨_, rfl⟩

/-- An illegal opcode's fault, whatever the bytes after it (R87, R261). -/
theorem exec_illegal (op b1 b2 : Byte) (s : State) (h : op ∈ illegalOpcodes) :
    exec (decodeBytes op b1 b2) s = .fault (.illegalInstruction { opcode := op, pc := s.pc - 1 }) := by
  simp only [illegalOpcodes, List.mem_cons, List.not_mem_nil, or_false] at h
  rcases h with rfl | rfl | rfl | rfl | rfl | rfl | rfl | rfl | rfl | rfl | rfl <;> rfl

/-- Settles O31: the first byte of the decoded instruction is the opcode, and it says whether the instruction completes. -/
theorem onlyIllegalOpcodesStop : Obligations.OnlyIllegalOpcodesStop := by
  intro op b1 b2 s
  refine ⟨exec_illegal op b1 b2 s, fun h => exec_completes _ s ?_⟩
  rw [encode_decodeBytes_first]
  exact Bool.eq_false_iff.mpr fun hi => h (List.contains_iff_mem.mp hi)

/-! Jumps (R80, R81; spec/45_control_transfer.md R240 to R244). -/

/-- The conditions by the bits of F (R80). -/
theorem cond_iff (s : State) :
    (s.cond .nz = true ↔ s.regs.f.getLsbD 7 = false) ∧ (s.cond .z = true ↔ s.regs.f.getLsbD 7 = true) ∧
      (s.cond .nc = true ↔ s.regs.f.getLsbD 4 = false) ∧ (s.cond .c = true ↔ s.regs.f.getLsbD 4 = true) := by
  simp [State.cond, State.flagZ, State.flagC]

/-- A relative target as an exact sum, narrowed once (R81, R243). -/
theorem add_sext16 (pc : Word) (e : Byte) : pc + sext16 e = BitVec.ofInt 16 (pc.toNat + e.toInt) := by
  rw [BitVec.ofInt_add, BitVec.ofInt_natCast, BitVec.ofNat_toNat, BitVec.setWidth_eq]
  rfl

theorem jumpRel_eq (e : Byte) (s : State) :
    jumpRel e s = { s with regs := { s.regs with pc := BitVec.ofInt 16 (s.pc.toNat + e.toInt) } } := by
  rw [← add_sext16]
  rfl

/-- A conditional transfer completes in `taken` or `notTaken` M-cycles, by its condition. -/
theorem completes_whenCond {i : Instr} {cc : Cond} {taken notTaken : Nat} {s t : State}
    (he : exec i s = .next (whenCond cc t s))
    (hc : tableCycles CycleTable.default i s = if !s.cond cc then notTaken else taken) :
    Completes i (if s.cond cc then taken else notTaken) s (if s.cond cc then t else s) := by
  refine completes_of he (hc.trans ?_)
  cases s.cond cc <;> rfl

theorem completes_jpCond (cc : Cond) (lo hi : Byte) (s : State) :
    Completes (decodeBytes (opXYZ 3 (0#1 ++ cc.code) 2) lo hi) (if s.cond cc then 4 else 3) s
      (if s.cond cc then { s with regs := { s.regs with pc := mkWord hi lo } } else s) := by
  cases cc <;> exact completes_whenCond rfl rfl

theorem completes_jrCond (cc : Cond) (e b2 : Byte) (s : State) :
    Completes (decodeBytes (opXYZ 0 (1#1 ++ cc.code) 0) e b2) (if s.cond cc then 3 else 2) s
      (if s.cond cc then { s with regs := { s.regs with pc := BitVec.ofInt 16 (s.pc.toNat + e.toInt) } } else s) := by
  rw [← jumpRel_eq]
  cases cc <;> exact completes_whenCond rfl rfl

/-- Settles O25, form by form. -/
theorem jumps : Obligations.Jumps := by
  refine ⟨cond_iff, fun nn s => completes_of rfl rfl, fun s => completes_of rfl rfl, fun e s => ?_,
    completes_jpCond, completes_jrCond⟩
  rw [← jumpRel_eq]
  exact completes_of rfl rfl

/-- Settles O1: each word's cell of the opcode maps. -/
theorem decodesSpecWords : Obligations.DecodesSpecWords := by
  exact ⟨rfl, rfl, rfl, rfl, rfl, rfl, rfl, rfl, rfl, rfl⟩

end Sys2Proof.Machine
end

section
/-! PROOFS of the family 40_load8: the 8-bit loads and stores complete, each with its one bus access and nothing else changed. -/

namespace Sys2Proof.Machine

/-! Loads between registers, of an immediate, and at HL: a decoded row runs the shared operation of its fields y and z
(spec/40_load8.md R100 to R104). -/

theorem completes_ldReg (dst src : R8) (b1 b2 : Byte) (s : State) :
    Completes (decodeBytes (opXYZ 1 dst.code src.code) b1 b2) 1 s (ldReg dst src s) := by
  cases dst <;> cases src <;> exact completes_of rfl rfl

theorem completes_ldImm (dst : R8) (n b2 : Byte) (s : State) :
    Completes (decodeBytes (opXYZ 0 dst.code 6) n b2) 2 s (ldImm dst n s) := by
  cases dst <;> exact completes_of rfl rfl

/-- H and L are destinations too: the address is the HL of before (R102). -/
theorem completes_ldFromHl (dst : R8) (b1 b2 : Byte) (s : State) :
    Completes (decodeBytes (opXYZ 1 dst.code 6) b1 b2) 2 s (ldFromHl dst s) := by
  cases dst <;> exact completes_of rfl rfl

theorem completes_ldToHl (src : R8) (b1 b2 : Byte) (s : State) :
    Completes (decodeBytes (opXYZ 1 6 src.code) b1 b2) 2 s (ldToHl src s) := by
  cases src <;> exact completes_of rfl rfl

/-- Settles O5: the two forms' operations are the register writes of the statement. -/
theorem loadRegister : Obligations.LoadRegister := by
  exact ⟨completes_ldReg, completes_ldImm⟩

/-- Settles O6: the two register forms by their operations, the immediate form as one row of the opcode map. -/
theorem loadStoreAtHl : Obligations.LoadStoreAtHl := by
  exact ⟨completes_ldFromHl, completes_ldToHl, fun n b2 s => completes_of rfl rfl⟩

/-! Loads and stores of A (R105 to R110, R112 to R115). -/

/-- A high-page address has the high byte 0xFF, whatever the offset: it never wraps (R112). -/
theorem highPage_eq_mkWord (n : Byte) : highPage n = mkWord 0xFF n := by
  revert n
  decide

/-- Settles O7: each row is a load of A from its address or a store there; the high page's by `highPage_eq_mkWord`. -/
theorem loadStoreAccumulator : Obligations.LoadStoreAccumulator := by
  refine ⟨fun s => ?ldAAtBc, fun s => ?ldAAtDe, fun s => ?ldAtBcA, fun s => ?ldAtDeA, fun nn s => ?ldAAtNn,
    fun nn s => ?ldAtNnA, fun n s => ?ldhAAtN, fun n s => ?ldhAtNA, fun s => ?ldAAtC, fun s => ?ldAtCA⟩
  case ldAAtBc | ldAAtDe | ldAtBcA | ldAtDeA | ldAAtNn | ldAtNnA => exact completes_of rfl rfl
  case ldhAAtN | ldhAtNA | ldAAtC | ldAtCA =>
    rw [← highPage_eq_mkWord]
    exact completes_of rfl rfl

/-! The access at HL, and then HL by one (R116 to R119). -/

/-- HL moves after the load of A, from the HL of before. -/
theorem bumpHl_ldAccFrom (d : Word) (s : State) :
    bumpHl d (ldAccFrom s.hl s) =
      { s with regs := { s.regs with a := busRead s s.hl, h := hiByte (s.hl + d), l := loByte (s.hl + d) } } := rfl

/-- HL moves from where it was, after whatever leaves the registers alone. -/
theorem bumpHl_of_regs_eq {s t : State} (d : Word) (h : t.regs = s.regs) :
    bumpHl d t = { t with regs := { s.regs with h := hiByte (s.hl + d), l := loByte (s.hl + d) } } := by
  have hhl : t.hl = s.hl := by rw [State.hl, h, State.hl]
  rw [← h, ← hhl]
  rfl

/-- HL moves after the store of A, from the HL of before. -/
theorem bumpHl_ldAccTo (d : Word) (s : State) :
    bumpHl d (ldAccTo s.hl s) =
      { busWrite s s.hl s.regs.a with regs := { s.regs with h := hiByte (s.hl + d), l := loByte (s.hl + d) } } :=
  bumpHl_of_regs_eq d (busWrite_regs s s.hl s.regs.a)

/-- Settles O8: the load or the store of A, then HL by 1 or by -1 modulo 65536. -/
theorem loadStoreAutoHl : Obligations.LoadStoreAutoHl := by
  refine ⟨fun s => ?ldAAtHlInc, fun s => ?ldAAtHlDec, fun s => ?ldAtHlIncA, fun s => ?ldAtHlDecA⟩
  case ldAAtHlInc =>
    rw [← bumpHl_ldAccFrom]
    exact completes_of rfl rfl
  case ldAAtHlDec =>
    rw [BitVec.sub_eq_add_neg, ← bumpHl_ldAccFrom]
    exact completes_of rfl rfl
  case ldAtHlIncA =>
    rw [← bumpHl_ldAccTo]
    exact completes_of rfl rfl
  case ldAtHlDecA =>
    rw [BitVec.sub_eq_add_neg, ← bumpHl_ldAccTo]
    exact completes_of rfl rfl

end Sys2Proof.Machine
end

section
/-! PROOFS of the family 41_load16: the 16-bit loads, PUSH and POP, and the sums of SP and a displacement complete, and what is pushed
into RAM is popped. -/

namespace Sys2Proof.Machine

/-! LD rr,nn and the loads of and from SP (spec/41_load16.md R127 to R129). -/

theorem completes_ldPair (p : R16) (lo hi : Byte) (s : State) :
    Completes (decodeBytes (opXPQZ 0 p.code 0 1) lo hi) 3 s (ldPair p (mkWord hi lo) s) := by
  cases p <;> exact completes_of rfl rfl

/-- Settles O9: LD rr,nn by its pair, the two forms of SP as one row of the opcode map each. -/
theorem loadPairs : Obligations.LoadPairs := by
  exact ⟨completes_ldPair, fun s => completes_of rfl rfl, fun nn s => completes_of rfl rfl⟩

/-! PUSH and POP (R131 to R135). -/

theorem completes_push (p : Q16) (b1 b2 : Byte) (s : State) :
    Completes (decodeBytes (opXPQZ 3 p.code 0 5) b1 b2) 4 s (push16 s (s.q16 p)) := by
  cases p <;> exact completes_of rfl rfl

theorem completes_pop (p : Q16) (b1 b2 : Byte) (s : State) :
    Completes (decodeBytes (opXPQZ 3 p.code 0 1) b1 b2) 3 s (popPair p s) := by
  cases p <;> exact completes_of rfl rfl

/-- A write of SP after whatever leaves the registers alone. -/
theorem setSp_of_regs_eq {s t : State} (v : Word) (h : t.regs = s.regs) :
    t.setSp v = { t with regs := { s.regs with sp := v } } := by
  rw [← h]
  rfl

/-- Push16's whole next state (R131). -/
theorem push16_eq_stores (s : State) (v : Word) : push16 s v =
    { busWrite (busWrite s (s.sp - 1) (hiByte v)) (s.sp - 2) (loByte v) with regs := { s.regs with sp := s.sp - 2 } } := by
  rw [push16_eq]
  exact setSp_of_regs_eq _ ((busWrite_regs _ _ _).trans (busWrite_regs _ _ _))

/-- Settles O10: PUSH is Push16 of the pair, and POP is Pop16 into it. -/
theorem pushAndPop : Obligations.PushAndPop := by
  refine ⟨fun p b1 b2 s => ?_, completes_pop, fun _ _ => rfl, fun v s => push16_eq_stores s v⟩
  rw [← push16_eq_stores]
  exact completes_push p b1 b2 s

/-! A value pushed into RAM is the value popped (R131, R132; spec/20_memory.md R59, R60, R67). -/

/-- The byte of RAM behind an address stands at the address itself, or 0x2000 below it in the echo (R54). -/
theorem ramKey_cases (a : Word) (k : Nat) (h : ramKey a = some k) :
    k = a.toNat ∨ (0xE000 ≤ a.toNat ∧ a.toNat < 0xFE00 ∧ k = a.toNat - 0x2000) := by
  unfold ramKey at h
  cases hr : regionOf a <;> rw [hr] at h <;> cases h
  case echo =>
    obtain ⟨hlo, hhi⟩ := (regionOf_echo a).mp hr
    exact .inr ⟨hlo, hhi, echoOf_toNat a hr⟩
  all_goals exact .inl rfl

/-- Two neighbouring addresses never share a byte of RAM. -/
theorem ramKey_add_one_ne (a : Word) (k : Nat) (h : ramKey a = some k) : ramKey (a + 1) ≠ some k := by
  intro h'
  obtain ⟨hlo, hhi, -⟩ := ramKey_range a k h
  have hk := ramKey_cases a k h
  have hk' := ramKey_cases (a + 1) k h'
  bv_omega

/-- A store to a RAM address leaves the byte at the next address as it was. -/
theorem busRead_busWrite_next (s : State) (a : Word) (v : Byte) (hb : s.params.bus = .spec) (h : ramKey a ≠ none) :
    busRead (busWrite s a v) (a + 1) = busRead s (a + 1) := by
  obtain ⟨k, hk⟩ := Option.ne_none_iff_exists'.mp h
  rw [busWrite_ramKey s a v k hb hk, busRead_spec (s.storeRam k v) _ hb, busRead_spec s _ hb]
  exact mapRead_storeRam s k v (a + 1) (ramKey_add_one_ne a k hk)

/-- A word stored in RAM, its high byte at the next address first, reads back byte by byte. -/
theorem busRead_storeWord (s : State) (a : Word) (hi lo : Byte) (hb : s.params.bus = .spec) (hw : s.ram.wf = true)
    (hhi : ramKey (a + 1) ≠ none) (hlo : ramKey a ≠ none) :
    busRead (busWrite (busWrite s (a + 1) hi) a lo) (a + 1) = hi ∧
      busRead (busWrite (busWrite s (a + 1) hi) a lo) a = lo := by
  have hb' : (busWrite s (a + 1) hi).params.bus = .spec := by rw [busWrite_params, hb]
  constructor
  · rw [busRead_busWrite_next _ a lo hb' hlo, busRead_busWrite_same s (a + 1) hi hb hw hhi]
  · exact busRead_busWrite_same _ a lo hb' (busWrite_ram_wf s (a + 1) hi hw) hlo

/-- Settles O11: Pop16 reads where Push16 stored, the byte stored last not being the other one. -/
theorem pushThenPopGivesBack : Obligations.PushThenPopGivesBack := by
  intro s v hb hw hhi hlo
  have hnext : s.sp - 1 = s.sp - 2 + 1 := by bv_omega
  obtain ⟨hreadHi, hreadLo⟩ := busRead_storeWord s (s.sp - 2) (hiByte v) (loByte v) hb hw (hnext ▸ hhi) hlo
  constructor
  · rw [popWord, push16_sp, push16_eq, busRead_setSp, busRead_setSp, hnext, hreadHi, hreadLo, mkWord_hi_lo]
  · rw [popSp, State.sp_setSp, push16_sp, BitVec.sub_add_cancel]

/-! SP plus a displacement (R130; spec/43_alu16.md R190, R192). -/

/-- The bits under a mask of the lowest `n` are the value modulo 2 ^ n. -/
theorem toNat_and_lowMask {w : Nat} (x m : BitVec w) (n : Nat) (hm : m.toNat = 2 ^ n - 1) :
    (x &&& m).toNat = x.toNat % 2 ^ n := by
  rw [BitVec.toNat_and, hm, Nat.and_two_pow_sub_one_eq_mod]

/-- The 16-bit sum is the exact signed sum, narrowed once (R190). -/
theorem spOffset_eq (sp : Word) (e : Byte) : spOffset sp e = BitVec.ofInt 16 (sp.toNat + e.toInt) := add_sext16 sp e

theorem spOffsetH_eq (sp : Word) (e : Byte) :
    spOffsetH sp e = decide (0x0F < (sp &&& 0x000F).toNat + (e &&& 0x0F).toNat) := by
  rw [toNat_and_lowMask sp 0x000F 4 rfl, toNat_and_lowMask e 0x0F 4 rfl]
  rfl

theorem spOffsetC_eq (sp : Word) (e : Byte) : spOffsetC sp e = decide (0xFF < (sp &&& 0x00FF).toNat + e.toNat) := by
  rw [toNat_and_lowMask sp 0x00FF 8 rfl]
  rfl

theorem addSpStep_eq (e : Byte) (s : State) : addSpStep e s = { s with regs := { s.regs with
    sp := spOffset s.sp e, f := packF false false (spOffsetH s.sp e) (spOffsetC s.sp e) } } :=
  setFlags_eq _ _ _ _ _

theorem ldHlFromSp_eq (e : Byte) (s : State) : ldHlFromSp e s = { s with regs := { s.regs with
    h := hiByte (spOffset s.sp e), l := loByte (spOffset s.sp e),
    f := packF false false (spOffsetH s.sp e) (spOffsetC s.sp e) } } :=
  setFlags_eq _ _ _ _ _

/-- Settles O12: both forms write `spOffset` and its two carries, which are the sums of the statement. -/
theorem spPlusOffset : Obligations.SpPlusOffset := by
  intro e s
  rw [← spOffset_eq, ← spOffsetH_eq, ← spOffsetC_eq, ← addSpStep_eq, ← ldHlFromSp_eq]
  exact ⟨completes_of rfl rfl, completes_of rfl rfl⟩

end Sys2Proof.Machine
end

section
/-! PROOFS of the family 42_alu8: the 8-bit arithmetic and logic on A, INC and DEC, and DAA with the other operations on A and F. -/

namespace Sys2Proof.Machine

/-! The eight ALU operations: a decoded row runs the operation of its field y on the operand of its field z (spec/42_alu8.md
R140). -/

theorem completes_alu (op : AluOp) (l : Loc8) (b1 b2 : Byte) (s : State) :
    Completes (decodeBytes (opXYZ 2 op.code l.code) b1 b2) (locCycles l 1 2) s (aluStep op (s.readLoc l) s) := by
  cases l with
  | reg r => cases op <;> cases r <;> exact completes_of rfl rfl
  | atHl => cases op <;> exact completes_of rfl rfl

theorem completes_aluImm (op : AluOp) (n b2 : Byte) (s : State) :
    Completes (decodeBytes (opXYZ 3 op.code 6) n b2) 2 s (aluStep op n s) := by
  cases op <;> exact completes_of rfl rfl

/-- An ALU step writes A, but for CP, and F by the operation's result (R140), and nothing else. -/
theorem aluStep_eq_withAF (op : AluOp) (v : Byte) (s : State) :
    aluStep op v s = s.withAF (if op = .cp then s.regs.a else (op.eval s.regs.a v s.flagC).res)
      (op.eval s.regs.a v s.flagC).z (op.eval s.regs.a v s.flagC).n (op.eval s.regs.a v s.flagC).h
      (op.eval s.regs.a v s.flagC).c := aluStep_regs op v s

/-! The narrowed results and the nibbles of the statements' arithmetic (spec/00_scope.md R9). -/

theorem ofNat8_eq_zero_iff (n : Nat) : BitVec.ofNat 8 n = 0 ↔ n % 256 = 0 := by
  rw [← BitVec.toNat_inj, BitVec.toNat_ofNat]
  rfl

theorem ofInt8_eq_zero_iff (i : Int) : BitVec.ofInt 8 i = 0 ↔ i % 256 = 0 := by
  rw [← BitVec.toNat_inj, BitVec.toNat_ofInt]
  show (i % 256).toNat = 0 ↔ i % 256 = 0
  omega

/-- A byte's difference is the exact one, narrowed once. -/
theorem sub_eq_ofInt8 (a b : Byte) : a - b = BitVec.ofInt 8 (a.toNat - b.toNat) := by
  apply BitVec.eq_of_toNat_eq
  rw [BitVec.toNat_sub, BitVec.toNat_ofInt]
  omega

theorem toNat_and_lowNibble (v : Byte) : (v &&& 0x0F).toNat = v.toNat % 16 := toNat_and_lowMask v 0x0F 4 rfl

/-! ADD, ADC, SUB, SBC and CP (R141, R142, R144 to R155, R165 to R167). -/

/-- The statement's machine after an addition is `add8`'s. -/
theorem afterAdd_eq_add8 (s : State) (v : Byte) (cin : Bool) :
    afterAdd s v cin = s.withAF (add8 s.regs.a v cin).res (add8 s.regs.a v cin).z (add8 s.regs.a v cin).n
      (add8 s.regs.a v cin).h (add8 s.regs.a v cin).c := by
  simp only [afterAdd, add8, toNat_and_lowNibble, ofNat8_eq_zero_iff]

/-- The statement's machine after a subtraction has `sub8`'s flags, whatever is put in A. -/
theorem afterSubWith_eq_sub8 (s : State) (a v : Byte) (cin : Bool) :
    afterSubWith s a v cin = s.withAF a (sub8 s.regs.a v cin).z (sub8 s.regs.a v cin).n (sub8 s.regs.a v cin).h
      (sub8 s.regs.a v cin).c := by
  have hborrow : difference s v cin < 0 ↔ s.regs.a.toNat < v.toNat + cin.toNat := by
    unfold difference
    omega
  simp only [afterSubWith, sub8, toNat_and_lowNibble, ofInt8_eq_zero_iff, hborrow]
  rfl

theorem aluStep_add (v : Byte) (s : State) : aluStep .add v s = afterAdd s v false :=
  (aluStep_eq_withAF .add v s).trans (afterAdd_eq_add8 s v false).symm

theorem aluStep_adc (v : Byte) (s : State) : aluStep .adc v s = afterAdd s v s.flagC :=
  (aluStep_eq_withAF .adc v s).trans (afterAdd_eq_add8 s v s.flagC).symm

theorem aluStep_sub (v : Byte) (s : State) : aluStep .sub v s = afterSub s v false :=
  (aluStep_eq_withAF .sub v s).trans (afterSubWith_eq_sub8 s _ v false).symm

theorem aluStep_sbc (v : Byte) (s : State) : aluStep .sbc v s = afterSub s v s.flagC :=
  (aluStep_eq_withAF .sbc v s).trans (afterSubWith_eq_sub8 s _ v s.flagC).symm

theorem aluStep_cp (v : Byte) (s : State) : aluStep .cp v s = afterSubWith s s.regs.a v false :=
  (aluStep_eq_withAF .cp v s).trans (afterSubWith_eq_sub8 s s.regs.a v false).symm

/-- Settles O13: both operations are `add8`, with the carry-in 0 or C. -/
theorem addAndAdc : Obligations.AddAndAdc := by
  refine ⟨fun l b1 b2 s => ?_, fun n b2 s => ?_⟩
  · rw [← aluStep_add, ← aluStep_adc]
    exact ⟨completes_alu .add l b1 b2 s, completes_alu .adc l b1 b2 s⟩
  · rw [← aluStep_add, ← aluStep_adc]
    exact ⟨completes_aluImm .add n b2 s, completes_aluImm .adc n b2 s⟩

/-- Settles O14: both operations are `sub8`, with the borrow-in 0 or C. -/
theorem subAndSbc : Obligations.SubAndSbc := by
  refine ⟨fun l b1 b2 s => ?_, fun n b2 s => ?_⟩
  · rw [← aluStep_sub, ← aluStep_sbc]
    exact ⟨completes_alu .sub l b1 b2 s, completes_alu .sbc l b1 b2 s⟩
  · rw [← aluStep_sub, ← aluStep_sbc]
    exact ⟨completes_aluImm .sub n b2 s, completes_aluImm .sbc n b2 s⟩

theorem packF_getLsbD_seven (z n h c : Bool) : (packF z n h c).getLsbD 7 = z := by
  revert z n h c
  decide

theorem packF_getLsbD_four (z n h c : Bool) : (packF z n h c).getLsbD 4 = c := by
  revert z n h c
  decide

theorem flagZ_withAF (s : State) (a : Byte) (z n h c : Bool) : (s.withAF a z n h c).flagZ = z :=
  packF_getLsbD_seven z n h c

theorem flagC_withAF (s : State) (a : Byte) (z n h c : Bool) : (s.withAF a z n h c).flagC = c :=
  packF_getLsbD_four z n h c

/-- Settles O16: CP is SUB with A as it was. Its Z and C are those of an exact difference, which lies between -255 and 255. -/
theorem compareForms : Obligations.CompareForms := by
  refine ⟨fun l b1 b2 s => aluStep_cp _ s ▸ completes_alu .cp l b1 b2 s,
    fun n b2 s => aluStep_cp n s ▸ completes_aluImm .cp n b2 s, fun v s => ?_⟩
  rw [afterSubWith, flagZ_withAF, flagC_withAF, difference, Bool.toNat_false, decide_eq_true_iff, decide_eq_true_iff,
    ← BitVec.toNat_inj]
  omega

/-! AND, XOR and OR (R143, R156 to R164). -/

theorem aluStep_and (v : Byte) (s : State) : aluStep .and v s = afterLogic s (s.regs.a &&& v) true :=
  aluStep_eq_withAF .and v s

theorem aluStep_xor (v : Byte) (s : State) : aluStep .xor v s = afterLogic s (s.regs.a ^^^ v) false :=
  aluStep_eq_withAF .xor v s

theorem aluStep_or (v : Byte) (s : State) : aluStep .or v s = afterLogic s (s.regs.a ||| v) false :=
  aluStep_eq_withAF .or v s

/-- Settles O15, by the three operations' results. -/
theorem logicForms : Obligations.LogicForms := by
  refine ⟨fun l b1 b2 s => ?_, fun n b2 s => ?_⟩
  · rw [← aluStep_and, ← aluStep_xor, ← aluStep_or]
    exact ⟨completes_alu .and l b1 b2 s, completes_alu .xor l b1 b2 s, completes_alu .or l b1 b2 s⟩
  · rw [← aluStep_and, ← aluStep_xor, ← aluStep_or]
    exact ⟨completes_aluImm .and n b2 s, completes_aluImm .xor n b2 s, completes_aluImm .or n b2 s⟩

/-! INC and DEC (R168 to R171). -/

theorem completes_incLoc (l : Loc8) (b1 b2 : Byte) (s : State) :
    Completes (decodeBytes (opXYZ 0 l.code 4) b1 b2) (locCycles l 1 3) s (incLoc l s) := by
  cases l with
  | reg r => cases r <;> exact completes_of rfl rfl
  | atHl => exact completes_of rfl rfl

theorem completes_decLoc (l : Loc8) (b1 b2 : Byte) (s : State) :
    Completes (decodeBytes (opXYZ 0 l.code 5) b1 b2) (locCycles l 1 3) s (decLoc l s) := by
  cases l with
  | reg r => cases r <;> exact completes_of rfl rfl
  | atHl => exact completes_of rfl rfl

theorem and_lowNibble_eq_iff (v k : Byte) : v &&& 0x0F = k ↔ v.toNat % 16 = k.toNat := by
  rw [← BitVec.toNat_inj, toNat_and_lowNibble]

/-- INC's result and flags on the exact sum. -/
theorem inc8_eq (v : Byte) (c : Bool) : inc8 v c =
    { res := BitVec.ofNat 8 (v.toNat + 1), z := v.toNat = 0xFF, n := false, h := v &&& 0x0F = 0x0F, c := c } := by
  have hzero : v + 1 = 0 ↔ v.toNat = 0xFF := by bv_omega
  have hres : v + 1 = BitVec.ofNat 8 (v.toNat + 1) := by bv_omega
  simp only [inc8, hzero, and_lowNibble_eq_iff]
  rw [hres]
  rfl

/-- DEC's result and flags on the exact difference. -/
theorem dec8_eq (v : Byte) (c : Bool) : dec8 v c =
    { res := BitVec.ofInt 8 (v.toNat - 1), z := v.toNat = 1, n := true, h := v &&& 0x0F = 0x00, c := c } := by
  have hzero : v - 1 = 0 ↔ v.toNat = 1 := by bv_omega
  have hres : v - 1 = BitVec.ofInt 8 (v.toNat - 1) := sub_eq_ofInt8 v 1
  simp only [dec8, hzero, and_lowNibble_eq_iff]
  rw [hres]
  rfl

/-- Settles O17: the operations write the results and flags of `inc8_eq` and `dec8_eq`. -/
theorem incAndDec : Obligations.IncAndDec := by
  intro l b1 b2 s
  constructor
  · have h := completes_incLoc l b1 b2 s
    rw [incLoc, inc8_eq] at h
    exact h
  · have h := completes_decLoc l b1 b2 s
    rw [decLoc, dec8_eq] at h
    exact h

/-! DAA, CPL, SCF and CCF (R172 to R175). -/

/-- A and the four flags are written, and nothing else. -/
theorem setAcc_setFlags (s : State) (a : Byte) (z n h c : Bool) : (s.setAcc a).setFlags z n h c = s.withAF a z n h c :=
  setFlags_eq (s.setAcc a) z n h c

/-- The addition branch on the exact sum of A and its two corrections. -/
theorem daaAdd_res (a : Byte) (h c : Bool) : (daaAdd a h c).res = BitVec.ofNat 8
    (a.toNat + (if c || decide (0x99 < a.toNat) then 0x60 else 0) + (if h || decide (0x09 < a.toNat % 16) then 0x06 else 0)) := by
  simp only [daaAdd]
  split_ifs <;> bv_omega

/-- The subtraction branch on the exact difference of A and its two corrections. -/
theorem daaSub_res (a : Byte) (h c : Bool) : (daaSub a h c).res = BitVec.ofInt 8
    (a.toNat - (if c then 0x60 else 0) - (if h then 0x06 else 0)) := by
  apply BitVec.eq_of_toNat_eq
  rw [BitVec.toNat_ofInt]
  simp only [daaSub]
  split_ifs <;> bv_omega

theorem daaStep_of_flagN_false (s : State) (hn : s.flagN = false) : daaStep s =
    s.withAF (daaAdd s.regs.a s.flagH s.flagC).res ((daaAdd s.regs.a s.flagH s.flagC).res = 0) false false
      (s.flagC || decide (0x99 < s.regs.a.toNat)) := by
  rw [daaStep, hn]
  exact setAcc_setFlags _ _ _ _ _ _

theorem daaStep_of_flagN_true (s : State) (hn : s.flagN = true) : daaStep s =
    s.withAF (daaSub s.regs.a s.flagH s.flagC).res ((daaSub s.regs.a s.flagH s.flagC).res = 0) true false s.flagC := by
  rw [daaStep, hn]
  exact setAcc_setFlags _ _ _ _ _ _

theorem cplStep_eq (s : State) : cplStep s = s.withAF (0xFF - s.regs.a) s.flagZ true true s.flagC := by
  rw [cplStep, setAcc_setFlags, ← BitVec.allOnes_sub_eq_not]
  rfl

/-- Settles O18: DAA by its two branches, the others by the flags they write. -/
theorem accumulatorAndFlagOps : Obligations.AccumulatorAndFlagOps := by
  intro s
  have hdaa : Completes .daa 1 s (daaStep s) := completes_of rfl rfl
  refine ⟨fun hn => ?_, fun hn => ?_, ?_, ?_, ?_⟩
  · dsimp only
    rw [← daaAdd_res, ← daaStep_of_flagN_false s hn]
    exact hdaa
  · dsimp only
    rw [← daaSub_res, ← daaStep_of_flagN_true s hn]
    exact hdaa
  · rw [← cplStep_eq]
    exact completes_of rfl rfl
  · rw [← setFlags_eq]
    exact completes_of rfl rfl
  · rw [← setFlags_eq]
    exact completes_of rfl rfl

/-! DAA on two-digit decimals (R141, R142, R172): `a` has the digits p and q, `b` the digits r and t. -/

theorem add8_res_toNat (a b : Byte) : (add8 a b false).res.toNat = (a.toNat + b.toNat) % 256 := BitVec.toNat_ofNat _ _

theorem sub8_res_toNat (a b : Byte) : (sub8 a b false).res.toNat = (256 + a.toNat - b.toNat) % 256 := by
  rw [sub8, Bool.toNat_false, Int.natCast_zero, Int.sub_zero, ← sub_eq_ofInt8]
  bv_omega

/-- The byte of a number's last two decimal digits x and y. -/
theorem decimalByte_eq {n k x y : Nat} (hx : x < 10) (hy : y < 10) (hn : n = 100 * k + (10 * x + y)) :
    16 * (n % 100 / 10) + n % 10 = 16 * x + y := by
  omega

section
variable {p q r t : Nat} {a b : Byte} (ha : a.toNat = 16 * p + q) (hb : b.toNat = 16 * r + t) (hp : p < 10) (hq : q < 10)
  (hr : r < 10) (ht : t < 10)

include ha hb hq ht

/-- The low correction is made just when the units reach ten: their sum either leaves the nibble or stays above 9 in it. -/
theorem add8_low_correction :
    ((add8 a b false).h || decide (0x09 < (add8 a b false).res.toNat % 16)) = decide (10 ≤ q + t) := by
  simp only [add8, BitVec.toNat_ofNat, ha, hb, Bool.toNat_false, ← Bool.decide_or, decide_eq_decide]
  omega

/-- The high correction is made just when the sum reaches a hundred. -/
theorem add8_high_correction :
    ((add8 a b false).c || decide (0x99 < (add8 a b false).res.toNat)) = decide (100 ≤ 10 * p + q + (10 * r + t)) := by
  simp only [add8, BitVec.toNat_ofNat, ha, hb, Bool.toNat_false, ← Bool.decide_or, decide_eq_decide]
  omega

/-- H after a subtraction is a borrow of the units. -/
theorem sub8_h_decimal : (sub8 a b false).h = decide (q < t) := by
  simp only [sub8, ha, hb, Bool.toNat_false, decide_eq_decide]
  omega

/-- C after a subtraction is a borrow of the tens. -/
theorem sub8_c_decimal : (sub8 a b false).c = decide (10 * p + q < 10 * r + t) := by
  simp only [sub8, ha, hb, Bool.toNat_false, decide_eq_decide]
  omega

include hp hr

/-- Each carry of the decimal sum takes its correction: 6 makes ten units sixteen, 0x60 makes ten tens 256. -/
theorem daaAdd_add8_res :
    (daaAdd (add8 a b false).res (add8 a b false).h (add8 a b false).c).res.toNat =
      16 * ((10 * p + q + (10 * r + t)) % 100 / 10) + (10 * p + q + (10 * r + t)) % 10 := by
  rw [daaAdd_res, add8_low_correction ha hb hq ht, add8_high_correction ha hb hq ht, BitVec.toNat_ofNat, add8_res_toNat, ha, hb,
    Nat.add_assoc, Nat.mod_add_mod]
  simp only [decide_eq_true_eq]
  split_ifs
  · rw [decimalByte_eq (k := 1) (x := p + r - 9) (y := q + t - 10)] <;> omega
  · rw [decimalByte_eq (k := 1) (x := p + r - 10) (y := q + t)] <;> omega
  · rw [decimalByte_eq (k := 0) (x := p + r + 1) (y := q + t - 10)] <;> omega
  · rw [decimalByte_eq (k := 0) (x := p + r) (y := q + t)] <;> omega

/-- Each borrow of the decimal difference takes its correction off again. -/
theorem daaSub_sub8_res :
    (daaSub (sub8 a b false).res (sub8 a b false).h (sub8 a b false).c).res.toNat =
      16 * ((100 + (10 * p + q) - (10 * r + t)) % 100 / 10) + (100 + (10 * p + q) - (10 * r + t)) % 10 := by
  rw [daaSub_res, sub8_h_decimal ha hb hq ht, sub8_c_decimal ha hb hq ht, BitVec.toNat_ofInt, sub8_res_toNat, ha, hb]
  simp only [decide_eq_true_eq]
  split_ifs
  · rw [decimalByte_eq (k := 0) (x := 9 + p - r) (y := 10 + q - t)] <;> omega
  · rw [decimalByte_eq (k := 0) (x := 10 + p - r) (y := q - t)] <;> omega
  · rw [decimalByte_eq (k := 1) (x := p - r - 1) (y := 10 + q - t)] <;> omega
  · rw [decimalByte_eq (k := 1) (x := p - r) (y := q - t)] <;> omega

end

/-- Settles O19, on the bytes 0xpq and 0xrt: C after DAA is the high correction, or the borrow it keeps. -/
theorem daaMakesDecimalSums : Obligations.DaaMakesDecimalSums := by
  intro p q r t hp hq hr ht
  have hbyte {x y : Nat} (hx : x < 10) (hy : y < 10) : (BitVec.ofNat 8 (16 * x + y)).toNat = 16 * x + y :=
    (BitVec.toNat_ofNat _ _).trans (Nat.mod_eq_of_lt (by omega))
  have ha := hbyte hp hq
  have hb := hbyte hr ht
  have hsum := Bool.eq_iff_iff.mp (add8_high_correction ha hb hq ht)
  have hdiff := Bool.eq_iff_iff.mp (sub8_c_decimal ha hb hq ht)
  exact ⟨⟨daaAdd_add8_res ha hb hp hq hr ht, hsum.trans decide_eq_true_iff⟩,
    ⟨daaSub_sub8_res ha hb hp hq hr ht, hdiff.trans decide_eq_true_iff⟩⟩

end Sys2Proof.Machine
end

section
/-! PROOFS of the family 43_alu16: ADD HL,rr, INC rr and DEC rr on the four pairs. -/

namespace Sys2Proof.Machine

/-! A decoded row runs the operation of its column on the pair of its field p (spec/43_alu16.md R191, R193, R194). -/

theorem completes_addHlStep (p : R16) (b1 b2 : Byte) (s : State) :
    Completes (decodeBytes (opXPQZ 0 p.code 1 1) b1 b2) 2 s (addHlStep p s) := by
  cases p <;> exact completes_of rfl rfl

theorem completes_incPair (p : R16) (b1 b2 : Byte) (s : State) :
    Completes (decodeBytes (opXPQZ 0 p.code 0 3) b1 b2) 2 s (s.setR16 p (s.r16 p + 1)) := by
  cases p <;> exact completes_of rfl rfl

theorem completes_decPair (p : R16) (b1 b2 : Byte) (s : State) :
    Completes (decodeBytes (opXPQZ 0 p.code 1 3) b1 b2) 2 s (s.setR16 p (s.r16 p - 1)) := by
  cases p <;> exact completes_of rfl rfl

/-! The operations on the statement's exact sums and differences (spec/00_scope.md R9). -/

theorem addHlH_eq (hl v : Word) : addHlH hl v = decide (0x0FFF < (hl &&& 0x0FFF).toNat + (v &&& 0x0FFF).toNat) := by
  rw [toNat_and_lowMask hl 0x0FFF 12 rfl, toNat_and_lowMask v 0x0FFF 12 rfl]
  rfl

/-- The pair is read before HL is written, so ADD HL,HL doubles the HL of before (R191). -/
theorem addHlStep_eq (p : R16) (s : State) : addHlStep p s = { s with regs := { s.regs with
    h := hiByte (s.hl + s.r16 p), l := loByte (s.hl + s.r16 p),
    f := packF s.flagZ false (addHlH s.hl (s.r16 p)) (addHlC s.hl (s.r16 p)) } } :=
  setFlags_eq _ _ _ _ _

/-- A word's predecessor is the exact one modulo 65536: 0 goes to 0xFFFF (R194). -/
theorem sub_one_eq_ofInt16 (v : Word) : v - 1 = BitVec.ofInt 16 (v.toNat - 1) := by
  apply BitVec.eq_of_toNat_eq
  rw [BitVec.toNat_ofInt]
  bv_omega

/-- Settles O20: ADD HL,rr by its whole next state `addHlStep_eq`, INC rr and DEC rr by the one write of the pair; a word's sum
is the exact one narrowed by definition, its difference by `sub_one_eq_ofInt16`. -/
theorem pairArithmetic : Obligations.PairArithmetic := by
  intro p b1 b2 s
  refine ⟨?addHl, ?incPair, ?decPair⟩
  case addHl =>
    rw [← BitVec.add_def, ← addHlH_eq, ← addHlC, ← addHlStep_eq]
    exact completes_addHlStep p b1 b2 s
  case incPair => exact completes_incPair p b1 b2 s
  case decPair =>
    rw [← sub_one_eq_ofInt16]
    exact completes_decPair p b1 b2 s

end Sys2Proof.Machine
end

section
/-! PROOFS of the family 44_rotate_shift_bit: the rotates and shifts of A and of the CB page, and BIT, RES and SET. -/

namespace Sys2Proof.Machine

/-! The fields of an opcode byte, and what they select (spec/30_encoding.md R76, R83; spec/10_state.md R23). -/

@[simp] theorem opXYZ_field_x (x : BitVec 2) (y z : BitVec 3) : (opXYZ x y z).extractLsb' 6 2 = x := by
  revert x y z
  decide

@[simp] theorem opXYZ_field_y (x : BitVec 2) (y z : BitVec 3) : (opXYZ x y z).extractLsb' 3 3 = y := by
  revert x y z
  decide

@[simp] theorem opXYZ_field_z (x : BitVec 2) (y z : BitVec 3) : (opXYZ x y z).extractLsb' 0 3 = z := by
  revert x y z
  decide

@[simp] theorem Loc8.ofCode_code (l : Loc8) : Loc8.ofCode l.code = l := by
  cases l with
  | reg r => cases r <;> rfl
  | atHl => rfl

@[simp] theorem Rot.ofCode_code (op : Rot) : Rot.ofCode op.code = op := by
  cases op <;> rfl

/-! A decoded row of the CB page runs the operation of its field x, with the field y, on the location of its field z
(spec/44_rotate_shift_bit.md R204; spec/46_cpu_control.md R267). -/

theorem cbByte_decodeCb (o : Byte) : cbByte (decodeCb o) = some o := by
  rw [cbByte, encode_decodeCb]
  rfl

theorem exec_decodeCb (o : Byte) (s : State) : exec (decodeCb o) s = .next (cbStep o s) :=
  exec_of_cbByte (cbByte_decodeCb o) s

/-- A row of the CB page costs its entry of the table's CB page, in any state (spec/70_reset_and_hazards.md R383). -/
theorem tableCycles_decodeCb (t : CycleTable) (o : Byte) (s : State) : tableCycles t (decodeCb o) s = mapAt 0 t.cb o := by
  rw [tableCycles, encode_decodeCb]
  rfl

/-- The CB page's costs: 2 on a register; at HL 3 for BIT, which does not write, and 4 for the others (R204, R222). -/
theorem cbCycles_opXYZ (x : BitVec 2) (y : BitVec 3) (l : Loc8) :
    mapAt 0 cbCycles (opXYZ x y l.code) = locCycles l 2 (if x = 1 then 3 else 4) := by
  revert x y
  cases l with
  | reg r => cases r <;> decide
  | atHl => decide

theorem completes_cbStep (x : BitVec 2) (y : BitVec 3) (l : Loc8) (b : Byte) (s : State) :
    Completes (decodeBytes 0xCB (opXYZ x y l.code) b) (locCycles l 2 (if x = 1 then 3 else 4)) s
      (cbStep (opXYZ x y l.code) s) :=
  completes_of (exec_decodeCb _ s) ((tableCycles_decodeCb _ _ s).trans (cbCycles_opXYZ x y l))

theorem cbStep_rot (op : Rot) (l : Loc8) (s : State) : cbStep (opXYZ 0 op.code l.code) s = rotLoc op l s := by
  simp [cbStep]

theorem cbStep_bit (y : BitVec 3) (l : Loc8) (s : State) : cbStep (opXYZ 1 y l.code) s = bitTest y l s := by
  simp [cbStep]

theorem cbStep_res (y : BitVec 3) (l : Loc8) (s : State) : cbStep (opXYZ 2 y l.code) s = bitRes y l s := by
  simp [cbStep]

theorem cbStep_set (y : BitVec 3) (l : Loc8) (s : State) : cbStep (opXYZ 3 y l.code) s = bitSet y l s := by
  simp [cbStep]

/-- A rotate or shift of the CB page completes with its result `r` written and its flags: Z of `r`, N and H 0, C by the
operation (R205 to R220). -/
theorem completes_rot (op : Rot) (l : Loc8) (b : Byte) (s : State) {r : Byte}
    (hr : op.result (s.readLoc l) s.flagC = r) :
    Completes (decodeBytes 0xCB (opXYZ 0 op.code l.code) b) (locCycles l 2 4) s
      ((s.writeLoc l r).setFlags (r = 0) false false (op.carry (s.readLoc l))) := by
  rw [← hr, ← rotLoc_eq, ← cbStep_rot]
  exact completes_cbStep 0 op.code l b s

/-! The results bit by bit: the model shifts and joins by `|||`, the statements rotate, shift and concatenate. -/

theorem Rot.result_rlc (v : Byte) (cin : Bool) : Rot.rlc.result v cin = v.rotateLeft 1 := by
  revert v cin
  decide

theorem Rot.result_rrc (v : Byte) (cin : Bool) : Rot.rrc.result v cin = v.rotateRight 1 := by
  revert v cin
  decide

theorem Rot.result_rl (v : Byte) (cin : Bool) : Rot.rl.result v cin = v.extractLsb' 0 7 ++ BitVec.ofBool cin := by
  revert v cin
  decide

theorem Rot.result_rr (v : Byte) (cin : Bool) : Rot.rr.result v cin = BitVec.ofBool cin ++ v.extractLsb' 1 7 := by
  revert v cin
  decide

theorem Rot.result_sla (v : Byte) (cin : Bool) : Rot.sla.result v cin = v.extractLsb' 0 7 ++ 0#1 := by
  revert v cin
  decide

theorem Rot.result_sra (v : Byte) (cin : Bool) : Rot.sra.result v cin = v.sshiftRight 1 := by
  revert v cin
  decide

theorem Rot.result_swap (v : Byte) (cin : Bool) : Rot.swap.result v cin = v.extractLsb' 0 4 ++ v.extractLsb' 4 4 := by
  revert v cin
  decide

theorem Rot.result_srl (v : Byte) (cin : Bool) : Rot.srl.result v cin = 0#1 ++ v.extractLsb' 1 7 := by
  revert v cin
  decide

/-- Settles O22: four rows y of the CB page's rotates and shifts, each by its result. -/
theorem cbLeftShifts : Obligations.CbLeftShifts := by
  intro l b s
  exact ⟨completes_rot .rlc l b s (Rot.result_rlc _ _), completes_rot .rl l b s (Rot.result_rl _ _),
    completes_rot .sla l b s (Rot.result_sla _ _), completes_rot .swap l b s (Rot.result_swap _ _)⟩

/-- Settles O23: the other four rows y, each by its result. -/
theorem cbRightShifts : Obligations.CbRightShifts := by
  intro l b s
  exact ⟨completes_rot .rrc l b s (Rot.result_rrc _ _), completes_rot .rr l b s (Rot.result_rr _ _),
    completes_rot .sra l b s (Rot.result_sra _ _), completes_rot .srl l b s (Rot.result_srl _ _)⟩

/-- The model's mask of bit b is the power of two (R223, R225). -/
theorem bitMask_eq_twoPow (b : BitVec 3) : bitMask b = BitVec.twoPow 8 b.toNat := rfl

/-- Settles O24: BIT writes the flags alone, RES and SET the byte alone, through the mask of the bit. -/
theorem bitResSet : Obligations.BitResSet := by
  intro y l b s
  refine ⟨?bit, ?res, ?set⟩
  case bit =>
    rw [← setFlags_eq, ← bitTest, ← cbStep_bit]
    exact completes_cbStep 1 y l b s
  case res =>
    rw [← bitMask_eq_twoPow, ← bitRes, ← cbStep_res]
    exact completes_cbStep 2 y l b s
  case set =>
    rw [← bitMask_eq_twoPow, ← bitSet, ← cbStep_set]
    exact completes_cbStep 3 y l b s

/-! The rotates of A on the unprefixed page (R200 to R203). -/

/-- A rotate of A completes with the result `a`, with C the bit shifted out and Z 0 whatever the result is. -/
theorem completes_rotAcc {i : Instr} (op : Rot) {s : State} {a : Byte} (he : exec i s = .next (rotAcc op s))
    (hc : tableCycles CycleTable.default i s = 1) (ha : op.result s.regs.a s.flagC = a) :
    Completes i 1 s (s.withAF a false false false (op.carry s.regs.a)) := by
  rw [← ha, ← setAcc_setFlags]
  exact completes_of he hc

/-- Settles O21: each form is the CB page's rotate on A, by its result. -/
theorem accumulatorRotates : Obligations.AccumulatorRotates := by
  intro s
  exact ⟨completes_rotAcc .rlc rfl rfl (Rot.result_rlc _ _), completes_rotAcc .rrc rfl rfl (Rot.result_rrc _ _),
    completes_rotAcc .rl rfl rfl (Rot.result_rl _ _), completes_rotAcc .rr rfl rfl (Rot.result_rr _ _)⟩

end Sys2Proof.Machine
end

section
/-! PROOFS of the family 45_control_transfer: calls, restarts and returns complete. (The jumps stand with the family 30_encoding.) -/

namespace Sys2Proof.Machine

/-! Calls and restarts: each is `callTo` its target, by Push16 of the pc of the next instruction
(spec/45_control_transfer.md R245, R246, R253). -/

/-- The form not taken is the whole state as it was: no stack access (R246). -/
theorem completes_callCond (cc : Cond) (lo hi : Byte) (s : State) :
    Completes (decodeBytes (opXYZ 3 (0#1 ++ cc.code) 4) lo hi) (if s.cond cc then 6 else 3) s
      (if s.cond cc then callTo (mkWord hi lo) s else s) := by
  cases cc <;> exact completes_whenCond rfl rfl

/-- The eight restarts, by the field y of the opcode (R253). -/
theorem completes_rst (y : BitVec 3) (b1 b2 : Byte) (s : State) :
    Completes (decodeBytes (opXYZ 3 y 7) b1 b2) 4 s (callTo (rstTarget y) s) := by
  obtain ⟨n, hn, rfl⟩ : ∃ n, n < 8 ∧ y = BitVec.ofNat 3 n := ⟨y.toNat, y.isLt, by simp⟩
  interval_cases n <;> exact completes_of rfl rfl

/-- Settles O26: the push and the write of pc in the statement are `callTo`. -/
theorem callsAndRestarts : Obligations.CallsAndRestarts := by
  exact ⟨fun nn s => completes_of rfl rfl, completes_callCond, completes_rst⟩

/-! Returns (R247, R248, R252). -/

/-- RET's whole next state: nothing but SP and pc (R247). -/
theorem returnTo_eq (s : State) : returnTo s =
    { s with regs := { s.regs with sp := s.sp + 2, pc := mkWord (busRead s (s.sp + 1)) (busRead s s.sp) } } := rfl

/-- RETI's whole next state: RET's, with IME set and no EI pending (R252). -/
theorem returnFromInterrupt_eq (s : State) : returnFromInterrupt s =
    { s with
      regs := { s.regs with sp := s.sp + 2, pc := mkWord (busRead s (s.sp + 1)) (busRead s s.sp) }
      intr := { s.intr with ime := true, eiPending := false } } := rfl

/-- The form not taken is the whole state as it was (R248). -/
theorem completes_retCond (cc : Cond) (b1 b2 : Byte) (s : State) :
    Completes (decodeBytes (opXYZ 3 (0#1 ++ cc.code) 0) b1 b2) (if s.cond cc then 5 else 2) s
      (if s.cond cc then returnTo s else s) := by
  cases cc <;> exact completes_whenCond rfl rfl

/-- Settles O27: RET, RET cc and RETI by the two whole next states. -/
theorem returns : Obligations.Returns := by
  refine ⟨fun s => ?ret, fun cc b1 b2 s => ?retCond, fun s => ?reti⟩
  case ret =>
    rw [← returnTo_eq]
    exact completes_of rfl rfl
  case retCond =>
    rw [← returnTo_eq]
    exact completes_retCond cc b1 b2 s
  case reti =>
    rw [← returnFromInterrupt_eq]
    exact completes_of rfl rfl

end Sys2Proof.Machine
end

section
/-! PROOFS of the family 46_cpu_control: NOP, DI and EI with the delay of EI, HALT and STOP with their wake-up, and 0xCB. -/

namespace Sys2Proof.Machine

/-! NOP, DI and EI (spec/46_cpu_control.md R260, R265, R266). -/

/-- A pending EI ends by setting IME, before the instruction at pc is fetched (R266; spec/60_exceptions.md R291). -/
theorem endEiDelay_of_pending (s : State) (h : s.intr.eiPending = true) :
    endEiDelay s = { s with intr := { s.intr with ime := true, eiPending := false } } := if_pos h

/-- Settles O28: the instruction after EI runs from the end of the EI delay, since with IME 0 no interrupt is taken first. -/
theorem nopDiEi : Obligations.NopDiEi := by
  refine ⟨fun s => completes_of rfl rfl, fun s => completes_of rfl rfl, fun s => completes_of rfl rfl, ?delay⟩
  intro s hfault hstopped hhalted hime hei
  rw [step_of_aboutToFetch s ⟨hfault, hstopped, hhalted, .inl hime⟩, endEiDelay_of_pending s hei]

/-! A source is pending when the byte `IE & IF & 0x1F` is not 0 (spec/60_exceptions.md R289). -/

theorem setWidth_enabledRequests (i : Interrupts) :
    i.enabledRequests.setWidth 8 = i.ie &&& i.ifl.setWidth 8 &&& 0x1F := by
  unfold Interrupts.enabledRequests
  generalize i.ie = ie, i.ifl = ifl
  ext k hk
  interval_cases k <;> simp

theorem pending_iff (s : State) : pending s = true ↔ s.intr.ie &&& s.intr.ifl.setWidth 8 &&& 0x1F ≠ 0 := by
  have hzero : ∀ r : BitVec 5, (r != 0) = true ↔ r.setWidth 8 ≠ 0 := by decide
  rw [← setWidth_enabledRequests]
  exact hzero s.intr.enabledRequests

/-! HALT and STOP (R262, R263). -/

/-- HALT's whole next state, with `pending` written out (R262). -/
theorem haltStep_eq (s : State) : haltStep s =
    if s.params.haltBug = true ∧ s.intr.ime = false ∧ s.intr.ie &&& s.intr.ifl.setWidth 8 &&& 0x1F ≠ 0 then
      { s with haltBugLatch := true }
    else { s with halted := true } := by
  simp only [haltStep, pending_iff]

/-- Settles O29: HALT by its whole next state; STOP's is the one in the statement. -/
theorem haltAndStop : Obligations.HaltAndStop := by
  refine ⟨fun s => ?halt, fun x s => completes_of rfl rfl⟩
  rw [← haltStep_eq]
  exact completes_of rfl rfl

/-! 0xCB and its second byte (R267): every instruction encoded as 0xCB and a byte `o` completes in `cbStep o`. -/

/-- The cost of a row of the CB page, by the fields x and z of its byte (spec/44_rotate_shift_bit.md R204, R222). -/
theorem cbCycles_eq (o : Byte) :
    mapAt 0 cbCycles o = if o &&& 7 ≠ 6 then 2 else if o.extractLsb' 6 2 = 1 then 3 else 4 := by
  revert o
  decide

theorem tableCycles_of_cbByte {i : Instr} {o : Byte} (h : cbByte i = some o) (t : CycleTable) (s : State) :
    tableCycles t i s = mapAt 0 t.cb o := by
  rw [tableCycles, encode_of_cbByte h]
  rfl

theorem completes_of_cbByte {i : Instr} {o : Byte} (h : cbByte i = some o) (s : State) :
    Completes i (if o &&& 7 ≠ 6 then 2 else if o.extractLsb' 6 2 = 1 then 3 else 4) s (cbStep o s) :=
  completes_of (exec_of_cbByte h s) ((tableCycles_of_cbByte h _ s).trans (cbCycles_eq o))

/-- Settles O30: the PREFIX CB constructor and the row decoded from its byte are both encoded as 0xCB and that byte. -/
theorem prefixSelectsCbPage : Obligations.PrefixSelectsCbPage := by
  intro o b s
  exact ⟨cbStep o s, completes_of_cbByte rfl s, completes_of_cbByte (cbByte_decodeCb o) s⟩

/-! The wake predicate (R264; log 6). -/

/-- Two words share a set bit when their conjunction is not 0. -/
theorem and_bne_zero_iff {w : Nat} (x m : BitVec w) :
    (x &&& m != 0) = true ↔ ∃ k, k < w ∧ m.getLsbD k = true ∧ x.getLsbD k = true := by
  constructor
  · intro h
    by_contra hno
    refine (bne_iff_ne.mp h) (BitVec.eq_of_getLsbD_eq fun k hk => ?_)
    have hk' : ¬(m.getLsbD k = true ∧ x.getLsbD k = true) := fun hb => hno ⟨k, hk, hb⟩
    simpa [and_comm] using hk'
  · rintro ⟨k, -, hm, hx⟩
    refine bne_iff_ne.mpr fun h0 => ?_
    simpa [hm, hx] using congrArg (·.getLsbD k) h0

/-- The default STOP_WAKE is the joypad's request bit (R264). -/
theorem stopWake_default (s : State) (h : s.params.stopWake = Params.default.stopWake) :
    stopWake s = s.intr.ifl.getLsbD 4 := by
  have hbit : ∀ r : BitVec 5, (r &&& 0b10000 != 0) = r.getLsbD 4 := by decide
  unfold stopWake
  rw [h]
  exact hbit s.intr.ifl

theorem stopWake_bits (s : State) (a : Word) (mask : Byte) (h : s.params.stopWake = .bits a mask) :
    stopWake s = true ↔ ∃ k : Nat, k < 8 ∧ mask.getLsbD k = true ∧ (busRead s a).getLsbD k = true := by
  unfold stopWake
  rw [h]
  exact and_bne_zero_iff (busRead s a) mask

/-! Sleeping and waking at the boundary of a step (R264; spec/60_exceptions.md R291, R297). -/

theorem step_of_boundary_eq {s t : State} (h : atBoundary s = atBoundary t) : step s = step t := by
  unfold step
  rw [h]

/-- A machine that is not stopped goes straight to the HALT wake. -/
theorem atBoundary_of_not_stopped (s : State) (hfault : s.fault = none) (hstopped : s.stopped = false) :
    atBoundary s = haltCheck s := by
  unfold atBoundary
  rw [hfault, hstopped]
  rfl

/-- A stopped machine goes on as one not stopped if STOP_WAKE holds, and is stuck if not. -/
theorem atBoundary_of_stopped (s : State) (hfault : s.fault = none) (hstopped : s.stopped = true) :
    atBoundary s = if stopWake s then haltCheck { s with stopped := false } else .halt .stuck := by
  unfold atBoundary
  rw [hfault, hstopped]
  rfl

theorem haltCheck_of_halted (s : State) (hhalted : s.halted = true) :
    haltCheck s = if pending s then haltCheck { s with halted := false } else .idle s := by
  unfold haltCheck
  rw [hhalted]
  rfl

theorem step_of_idle (s : State) (hfault : s.fault = none) (hstopped : s.stopped = false) (hhalted : s.halted = true)
    (hp : pending s = false) : step s = .next (platformTick s 1) := by
  unfold step
  rw [atBoundary_of_not_stopped s hfault hstopped, haltCheck_of_halted s hhalted, hp]
  rfl

theorem step_of_halt_wake (s : State) (hfault : s.fault = none) (hstopped : s.stopped = false) (hhalted : s.halted = true)
    (hp : pending s = true) : step s = step { s with halted := false } := by
  refine step_of_boundary_eq ?_
  rw [atBoundary_of_not_stopped s hfault hstopped, haltCheck_of_halted s hhalted, if_pos hp,
    atBoundary_of_not_stopped { s with halted := false } hfault hstopped]

theorem step_of_stuck (s : State) (hfault : s.fault = none) (hstopped : s.stopped = true) (hw : stopWake s = false) :
    step s = .fault .stuck := by
  unfold step
  rw [atBoundary_of_stopped s hfault hstopped, hw]
  rfl

theorem step_of_stop_wake (s : State) (hfault : s.fault = none) (hstopped : s.stopped = true) (hw : stopWake s = true) :
    step s = step { s with stopped := false } := by
  refine step_of_boundary_eq ?_
  rw [atBoundary_of_stopped s hfault hstopped, if_pos hw, atBoundary_of_not_stopped { s with stopped := false } hfault rfl]

/-- Settles O40: the four ways of a sleeping machine at a boundary, and what the wake predicate and `pending` say. -/
theorem sleepAndWake : Obligations.SleepAndWake := by
  refine ⟨step_of_idle, step_of_halt_wake, step_of_stuck, step_of_stop_wake, stopWake_default, stopWake_bits, ?forms,
    pending_iff⟩
  intro s p q
  exact ⟨rfl, rfl, rfl, fun h => congrArg (wakeHolds · s) h⟩

end Sys2Proof.Machine
end

section
/-! PROOFS of the family 60_exceptions: the step and dispatch, the outcomes of a step, the platform's devices (timer, PPU, rendering,
sweep, MBC1), the run loop, the save state, and that no program sees the execution control. -/

namespace Sys2Proof.Machine

/-! The step of a machine about to fetch, in terms of the decoder (spec/60_exceptions.md R291; spec/30_encoding.md R86). -/

/-- What the decoder answers on three bytes: the instruction, and as many bytes left over as its length leaves. -/
theorem decode_three_bytes {op b1 b2 : Byte} {i : Instr} {rest : List Byte} (h : decode [op, b1, b2] = .ok (i, rest)) :
    i = decodeBytes op b1 b2 ∧ 3 - rest.length = lengthOfOpcode op := by
  obtain ⟨h1, h3⟩ := lengthOfOpcode_range op
  rw [decode_cons op [b1, b2] h3] at h
  cases h
  refine ⟨rfl, ?_⟩
  rw [List.length_drop]
  show 3 - (2 - (lengthOfOpcode op - 1)) = lengthOfOpcode op
  omega

/-- An illegal opcode is an instruction of one byte (spec/30_encoding.md R75, R87). -/
theorem lengthOfOpcode_illegal {op : Byte} (h : isIllegal op = true) : lengthOfOpcode op = 1 := by
  revert op
  decide

/-- With no latch the operands are the bytes after the opcode. -/
theorem instrAt_of_no_latch (s : State) (h : s.haltBugLatch = false) :
    instrAt s = decodeBytes (busRead s s.pc) (busRead s (s.pc + 1)) (busRead s (s.pc + 2)) := by
  unfold instrAt operandPc opcodeAt
  rw [h, if_neg Bool.false_ne_true, BitVec.add_assoc]
  rfl

/-- With no latch the instruction is run with pc past as many bytes as its opcode says, and nothing else changed. -/
theorem afterFetch_of_no_latch (s : State) (h : s.haltBugLatch = false) :
    afterFetch s = s.setPc (s.pc + BitVec.ofNat 16 (lengthOfOpcode (opcodeAt s))) := by
  have hstate : { s with haltBugLatch := false } = s := by rw [← h]
  have hpc : operandPc s + BitVec.ofNat 16 (lengthOfOpcode (opcodeAt s) - 1) =
      s.pc + BitVec.ofNat 16 (lengthOfOpcode (opcodeAt s)) := by
    obtain ⟨h1, -⟩ := lengthOfOpcode_range (opcodeAt s)
    obtain ⟨n, hn⟩ := Nat.exists_eq_add_of_le h1
    rw [operandPc, h, if_neg Bool.false_ne_true, hn, Nat.add_sub_cancel_left, BitVec.ofNat_add, BitVec.add_assoc]
    rfl
  rw [afterFetch, hstate, hpc]

/-- With no latch, running the instruction at pc is `exec` and one tick, an illegal opcode's fault included: its ILLEGAL meaning
records the address before pc, which is the opcode's own (spec/46_cpu_control.md R261). -/
theorem runInstr_of_no_latch (s : State) (h : s.haltBugLatch = false) :
    runInstr s = tickAfter (exec (instrAt s) (afterFetch s)) (instrCycles (instrAt s) (afterFetch s)) := by
  unfold runInstr
  split
  · next hi =>
    have hfault := exec_illegal (opcodeAt s) (busRead s (operandPc s)) (busRead s (operandPc s + 1)) (afterFetch s)
      (List.contains_iff_mem.mp hi)
    have hpc : (afterFetch s).pc - 1 = s.pc := by
      rw [afterFetch_of_no_latch s h, State.pc_setPc, lengthOfOpcode_illegal hi]
      exact BitVec.add_sub_cancel _ _
    rw [hpc] at hfault
    rw [instrAt, hfault]
    rfl
  · rfl

/-- Settles O36: the decoder's answer on the three bytes at pc is the instruction that the step runs. -/
theorem stepRunsDecodedInstruction : Obligations.StepRunsDecodedInstruction := by
  intro s i rest hfetch hlatch hdecode
  obtain ⟨hi, hlength⟩ := decode_three_bytes hdecode
  have hlatch' : (endEiDelay s).haltBugLatch = false := (endEiDelay_haltBugLatch s).trans hlatch
  rw [step_of_aboutToFetch s hfetch, runInstr_of_no_latch _ hlatch', instrAt_of_no_latch _ hlatch',
    afterFetch_of_no_latch _ hlatch', hlength, hi]
  simp only [endEiDelay_busRead, endEiDelay_pc, endEiDelay_opcodeAt]
  rfl

/-! Dispatch (R289, R292 to R294). -/

theorem enabledRequests_getLsbD (i : Interrupts) (k : Nat) (hk : k < 5) :
    i.enabledRequests.getLsbD k = (i.ie.getLsbD k && i.ifl.getLsbD k) := by
  simp [Interrupts.enabledRequests, hk]

/-- The source of smallest number among the enabled requests is the one chosen (R289). -/
theorem highest_eq (s : State) (k : Nat) (hk : k < 5) (hset : s.intr.enabledRequests.getLsbD k = true)
    (hbelow : ∀ j, j < k → s.intr.enabledRequests.getLsbD j = false) : highest s = k := by
  unfold highest
  dsimp only
  interval_cases k <;> simp only [hset, hbelow, Nat.reduceLT, Bool.false_eq_true, if_true, if_false]

/-- A set bit makes the requests pending. -/
theorem pending_of_getLsbD (s : State) (k : Nat) (hset : s.intr.enabledRequests.getLsbD k = true) : pending s = true := by
  refine bne_iff_ne.mpr fun h => ?_
  rw [h] at hset
  exact Bool.false_ne_true (BitVec.getLsbD_zero.symm.trans hset)

/-- With a source pending a machine goes on awake, halted or not (R297). -/
theorem haltCheck_of_pending (s : State) (hp : pending s = true) : haltCheck s = interruptCheck { s with halted := false } := by
  unfold haltCheck
  split
  · rfl
  · next h => rw [← Bool.eq_false_iff.mpr h]

/-- With IME set and a source pending the step takes the interrupt (R291). -/
theorem step_of_interrupt (s : State) (hfault : s.fault = none) (hstopped : s.stopped = false) (hime : s.intr.ime = true)
    (hp : pending s = true) : step s = .next (platformTick (takeInterrupt { s with halted := false }) 5) := by
  have hcheck : interruptCheck { s with halted := false } = .dispatch (takeInterrupt { s with halted := false }) :=
    if_pos ⟨hime, hp⟩
  unfold step
  rw [atBoundary_of_not_stopped s hfault hstopped, haltCheck_of_pending s hp, hcheck]
  rfl

/-- Settles O38: the smallest source is the one `highest` chooses, and an awake machine with nothing to take fetches. -/
theorem dispatchTakesHighest : Obligations.DispatchTakesHighest := by
  refine ⟨fun s k hfault hstopped hime hk hie hif hbelow => ?_, step_of_aboutToFetch⟩
  have hset : s.intr.enabledRequests.getLsbD k = true := by rw [enabledRequests_getLsbD _ k hk, hie, hif]; rfl
  have hlow : ∀ j, j < k → s.intr.enabledRequests.getLsbD j = false := fun j hj => by
    rw [enabledRequests_getLsbD _ j (hj.trans hk), hbelow j hj]
  have hhighest : highest { s with halted := false } = k := highest_eq { s with halted := false } k hk hset hlow
  rw [step_of_interrupt s hfault hstopped hime (pending_of_getLsbD s k hset), takeInterrupt, hhighest]
  rfl

/-- No store at IF is read elsewhere, whatever the BUS is. -/
theorem touches_if (bus : Source) (b : Word) (h : b ≠ 0xFF0F) : touches bus 0xFF0F b = false := by
  cases bus with
  | spec => exact decide_eq_false h
  | given k => exact decide_eq_false h

/-- A change of IME, of `ei_pending` and of the request bits is read at IF alone. -/
theorem busRead_withRequests (s : State) (x y : Bool) (r : BitVec 5) (b : Word) (h : b ≠ 0xFF0F) :
    busRead { s with intr := { s.intr with ime := x, eiPending := y, ifl := r } } b = busRead s b := by
  have hstore : busWrite s 0xFF0F (r.setWidth 8) = { s with intr := { s.intr with ifl := r } } := by
    have hr : ∀ r : BitVec 5, (r.setWidth 8).extractLsb' 0 5 = r := by decide
    rw [busWrite_if, hr]
  calc busRead { s with intr := { s.intr with ime := x, eiPending := y, ifl := r } } b
      = busRead (busWrite s 0xFF0F (r.setWidth 8)) b := by rw [hstore]; rfl
    _ = busRead s b := busRead_busWrite_frame s 0xFF0F b _ (touches_if _ b h)

/-- What neither stack slot's store touches, IF apart, reads after an interrupt is taken as before. -/
theorem takeInterrupt_busRead (s : State) (b : Word) (h : b ≠ 0xFF0F) (h1 : touches s.params.bus (s.sp - 1) b = false)
    (h2 : touches s.params.bus (s.sp - 2) b = false) : busRead (takeInterrupt s) b = busRead s b := by
  rw [takeInterrupt, busRead_setPc]
  refine Eq.trans (push16_frame _ _ b (by exact h1) (by exact h2)) ?_
  exact busRead_withRequests s false false _ b h

/-- Settles O39, register by register and read by read. -/
theorem dispatchFrame : Obligations.DispatchFrame := by
  intro s
  exact ⟨takeInterrupt_regs s, takeInterrupt_ime s, takeInterrupt_eiPending s, takeInterrupt_sameControl s,
    takeInterrupt_busRead s⟩

/-! The outcomes of a step and its cost (R280, R291, R298; spec/70_reset_and_hazards.md R383, R384). -/

/-- The unprefixed page's costs lie between 1 and 6, for a conditional transfer taken or not. -/
theorem pageCycles_range (op : Byte) (hi : isIllegal op = false) (hcb : op ≠ cbPrefix) :
    (1 ≤ mapAt 0 pageCycles op ∧ mapAt 0 pageCycles op ≤ 6) ∧
      1 ≤ (notTakenCycles.lookup op).getD (mapAt 0 pageCycles op) ∧
      (notTakenCycles.lookup op).getD (mapAt 0 pageCycles op) ≤ 6 := by
  revert op
  decide

theorem pageCost_range (op : Byte) (s : State) (hi : isIllegal op = false) (hcb : op ≠ cbPrefix) :
    1 ≤ pageCost CycleTable.default op s ∧ pageCost CycleTable.default op s ≤ 6 := by
  obtain ⟨htaken, hnot⟩ := pageCycles_range op hi hcb
  unfold pageCost
  split
  · exact hnot
  · exact htaken

theorem cbCycles_range (o : Byte) : 1 ≤ mapAt 0 cbCycles o ∧ mapAt 0 cbCycles o ≤ 6 := by
  rw [cbCycles_eq]
  split_ifs <;> decide

/-- The cost of an instruction of the unprefixed page goes by its first byte (R383). -/
theorem tableCycles_of_first {i : Instr} {op : Byte} (h : (encode i).headD 0 = op) (hcb : op ≠ cbPrefix) (t : CycleTable)
    (s : State) : tableCycles t i s = pageCost t op s := by
  obtain ⟨op', tail, he, -⟩ := encode_cons i
  rw [he] at h
  cases h
  rw [tableCycles, he]
  cases tail with
  | nil => rfl
  | cons o rest => exact if_neg hcb

/-- Every instruction but those of the illegal opcodes takes 1 to 6 M-cycles. -/
theorem tableCycles_range (op b1 b2 : Byte) (s : State) (hi : isIllegal op = false) :
    1 ≤ tableCycles CycleTable.default (decodeBytes op b1 b2) s ∧
      tableCycles CycleTable.default (decodeBytes op b1 b2) s ≤ 6 := by
  by_cases hcb : op = cbPrefix
  · have hrow : decodeBytes op b1 b2 = decodeCb b1 := if_pos hcb
    rw [hrow, tableCycles_decodeCb]
    exact cbCycles_range b1
  · rw [tableCycles_of_first (encode_decodeBytes_first op b1 b2) hcb]
    exact pageCost_range op s hi hcb

/-- What `instrCycles` gives at a boundary by the default of CYCLES. -/
theorem instrCycles_range (s t : State) (hi : isIllegal (opcodeAt s) = false) (h : t.params.cycles = CycleTable.default) :
    1 ≤ instrCycles (instrAt s) t ∧ instrCycles (instrAt s) t ≤ 6 := by
  rw [instrCycles_default _ t h]
  exact tableCycles_range _ _ _ t hi

/-- A legal opcode's instruction answers a next state, and its tick counts its M-cycles. -/
theorem runInstr_of_legal (s : State) (hi : isIllegal (opcodeAt s) = false) : ∃ t, runInstr s = .next t ∧
    t.ctl.totalCycles = s.ctl.totalCycles + instrCycles (instrAt s) (afterFetch s) := by
  have hfirst : isIllegal ((encode (instrAt s)).headD 0) = false := by
    rw [instrAt, encode_decodeBytes_first]
    exact hi
  obtain ⟨u, hu⟩ := exec_completes (instrAt s) (afterFetch s) hfirst
  obtain ⟨-, hctl, -⟩ := (exec_effect _ _ u hu).sameControl
  refine ⟨platformTick u (instrCycles (instrAt s) (afterFetch s)), ?_, ?_⟩
  · rw [runInstr, hi, hu]
    rfl
  · rw [platformTick_totalCycles, hctl]
    rfl

@[simp] theorem endEiDelay_ctl (s : State) : (endEiDelay s).ctl = s.ctl := by
  unfold endEiDelay; split <;> rfl

/-- Settles O42, by the ways of a boundary: a recorded fault, STOP, an idle step (1), a dispatch (5), an instruction (1 to 6). -/
theorem stepOutcomesAndCost : Obligations.StepOutcomesAndCost := by
  intro s
  unfold step
  rcases atBoundary_cases s with ⟨info, hf, hb⟩ | ⟨-, hstopped, hw, hb⟩ | ⟨-, -, -, hb⟩ | ⟨-, -, -, hb⟩ | ⟨-, -, -, hb⟩ <;>
    rw [hb]
  · exact .inr (.inl ⟨info, rfl, .inl hf⟩)
  · exact .inr (.inr ⟨rfl, hstopped, hw⟩)
  · exact .inl ⟨_, rfl, fun _ => ⟨Nat.le_refl _, Nat.le_add_right _ 5⟩⟩
  · obtain ⟨-, hctl, -⟩ := takeInterrupt_sameControl (awake s)
    refine .inl ⟨_, rfl, fun _ => ?_⟩
    rw [platformTick_totalCycles, hctl]
    exact ⟨Nat.add_le_add_left (by decide) _, Nat.add_le_add_left (by decide) _⟩
  · have hop : opcodeAt (endEiDelay (awake s)) = busRead s s.pc := endEiDelay_opcodeAt (awake s)
    cases hi : isIllegal (busRead s s.pc) with
    | true => exact .inr (.inl ⟨⟨_, _⟩, if_pos (hop ▸ hi), .inr rfl⟩)
    | false =>
      rw [← hop] at hi
      obtain ⟨t, ht, htotal⟩ := runInstr_of_legal _ hi
      refine .inl ⟨t, ht, fun hdefault => ?_⟩
      obtain ⟨h1, h6⟩ := instrCycles_range _ (fetched s) hi (by rw [fetched_params, hdefault])
      rw [htotal, endEiDelay_ctl]
      exact ⟨Nat.add_le_add_left h1 _, Nat.add_le_add_left h6 _⟩

/-! The timer (R310 to R317). -/

theorem timerPeriod_pos (sel : BitVec 2) : 0 < timerPeriod sel := by
  revert sel
  decide

theorem Timer.period_pos (t : Timer) : 0 < t.period := timerPeriod_pos _

/-- Below one period only the sub-counter moves (R311). -/
theorem timerAdvance_below (t : Timer) (ifl : BitVec 5) (c : Nat) (h : t.sub + c < t.period) :
    timerAdvance t ifl c = ({ t with sub := t.sub + c }, ifl) := by
  rw [timerAdvance, Nat.div_eq_of_lt h, Nat.mod_eq_of_lt h]
  rfl

/-- From a period on one period is taken off the sub-counter, and TIMA makes one increment (R311). -/
theorem timerAdvance_period (t : Timer) (ifl : BitVec 5) (c : Nat) (h : t.period ≤ t.sub + c) :
    timerAdvance t ifl c =
      timerAdvance (timaStep { t with sub := t.sub + c - t.period } ifl).1
        (timaStep { t with sub := t.sub + c - t.period } ifl).2 0 := by
  have hdiv : (t.sub + c) / t.period = (t.sub + c - t.period) / t.period + 1 := Nat.div_eq_sub_div t.period_pos h
  have hmod : (t.sub + c) % t.period = (t.sub + c - t.period) % t.period := Nat.mod_eq_sub_mod h
  rw [timerAdvance, hdiv, hmod, timaSteps]
  unfold timerAdvance timaStep
  by_cases hf : t.tima = 0xFF
  · simp only [if_pos hf]; rfl
  · simp only [if_neg hf]; rfl

theorem timerTick_divCounter (t : Timer) (ifl : BitVec 5) (c : Nat) :
    (timerTick t ifl c).1.divCounter = BitVec.ofNat 16 (t.divCounter.toNat + c) := by
  obtain ⟨x, n, y, e, -, -⟩ := timerTick_spec t ifl c
  rw [e, BitVec.ofNat_add, BitVec.ofNat_toNat, BitVec.setWidth_eq]

/-- DIV shows bits 13 to 6 of the counter (R312). -/
theorem Timer.div_toNat (t : Timer) : t.div.toNat = t.divCounter.toNat / 64 % 256 := by
  rw [Timer.div, BitVec.extractLsb'_toNat, Nat.shiftRight_eq_div_pow]

theorem timerTick_disabled (t : Timer) (ifl : BitVec 5) (c : Nat) (h : t.tac.getLsbD 2 = false) :
    timerTick t ifl c = ({ t with divCounter := BitVec.ofNat 16 (t.divCounter.toNat + c) }, ifl) := by
  rw [timerTick, Timer.enabled, h, BitVec.ofNat_add, BitVec.ofNat_toNat, BitVec.setWidth_eq]
  rfl

theorem timerTick_enabled (t : Timer) (ifl : BitVec 5) (c : Nat) (h : t.tac.getLsbD 2 = true) :
    timerTick t ifl c = timerAdvance { t with divCounter := BitVec.ofNat 16 (t.divCounter.toNat + c) } ifl c := by
  rw [timerTick, Timer.enabled, h, BitVec.ofNat_add, BitVec.ofNat_toNat, BitVec.setWidth_eq]
  rfl

/-- The timer's registers on the spec's BUS (R315). -/
theorem busWrite_timer (s : State) (v : Byte) (hb : s.params.bus = .spec) :
    busWrite s 0xFF04 v = { s with timer := { s.timer with divCounter := 0 } } ∧
    busWrite s 0xFF05 v = { s with timer := { s.timer with tima := v } } ∧
    busWrite s 0xFF06 v = { s with timer := { s.timer with tma := v } } ∧
    busWrite s 0xFF07 v = { s with timer := { s.timer with tac := v.setWidth 3 } } := by
  rw [busWrite_io s 0xFF04 v hb (by decide), busWrite_io s 0xFF05 v hb (by decide), busWrite_io s 0xFF06 v hb (by decide),
    busWrite_io s 0xFF07 v hb (by decide), BitVec.setWidth_eq_extractLsb' (by decide)]
  exact ⟨rfl, rfl, rfl, rfl⟩

/-- Settles O49: the divider by `timerTick_divCounter`, the sub-counter by the two cases of `timerAdvance`, the registers by the
bus. -/
theorem timerTick_obligation : Obligations.TimerTick := by
  refine ⟨fun t ifl c => ⟨timerTick_divCounter t ifl c, t.div_toNat, timerTick_disabled t ifl c⟩, timerAdvance_below,
    fun t ifl c h => ?_, timerTick_enabled, busWrite_timer⟩
  rw [timerAdvance_period t ifl c h, timaStep]
  by_cases hf : t.tima = 0xFF
  · rw [if_pos hf, if_pos hf]
  · rw [if_neg hf, if_neg hf]

/-! Increments in a row (R311, R317). -/

theorem timaSteps_add (m n : Nat) (t : Timer) (ifl : BitVec 5) :
    timaSteps (m + n) t ifl = timaSteps n (timaSteps m t ifl).1 (timaSteps m t ifl).2 := by
  induction m generalizing t ifl with
  | zero => rw [Nat.zero_add]; rfl
  | succ m ih => rw [Nat.succ_add, timaSteps, ih]; rfl

/-- An increment neither reads nor writes the divider and the sub-counter. -/
theorem timaSteps_withCounters (n : Nat) (t : Timer) (ifl : BitVec 5) (d : Word) (x : Nat) :
    timaSteps n { t with divCounter := d, sub := x } ifl =
      ({ (timaSteps n t ifl).1 with divCounter := d, sub := x }, (timaSteps n t ifl).2) := by
  induction n generalizing t ifl with
  | zero => rfl
  | succ n ih =>
    have hstep : timaStep { t with divCounter := d, sub := x } ifl =
        ({ (timaStep t ifl).1 with divCounter := d, sub := x }, (timaStep t ifl).2) := by
      unfold timaStep
      by_cases hf : t.tima = 0xFF
      · rw [if_pos hf, if_pos hf]
      · rw [if_neg hf, if_neg hf]
    rw [timaSteps, hstep, ih]
    rfl

/-- Before the overflow increments only count (R311). -/
theorem timaSteps_below (n : Nat) (t : Timer) (ifl : BitVec 5) (h : t.tima.toNat + n < 256) :
    timaSteps n t ifl = ({ t with tima := t.tima + BitVec.ofNat 8 n }, ifl) := by
  induction n generalizing t ifl with
  | zero => exact congrArg (fun x => ({ t with tima := x }, ifl)) (BitVec.add_zero t.tima).symm
  | succ n ih =>
    have hne : t.tima ≠ 0xFF := by bv_omega
    have hsum : t.tima + 1 + BitVec.ofNat 8 n = t.tima + BitVec.ofNat 8 (n + 1) := by bv_omega
    rw [timaSteps, timaStep, if_neg hne, ih { t with tima := t.tima + 1 } ifl (by bv_omega), ← hsum]

/-- At the overflow TIMA is reloaded and IF[2] requested (R311). -/
theorem timaSteps_overflow (t : Timer) (ifl : BitVec 5) :
    timaSteps (256 - t.tima.toNat) t ifl = ({ t with tima := t.tma }, ifl ||| 0b00100) := by
  have hlt := t.tima.isLt
  have hlast : t.tima + BitVec.ofNat 8 (255 - t.tima.toNat) = 0xFF := by bv_omega
  have hcount : 256 - t.tima.toNat = (255 - t.tima.toNat) + 1 := by omega
  rw [hcount, timaSteps_add, timaSteps_below _ t ifl (by omega), hlast]
  rfl

/-- `timerAdvance` by its increments: they give TIMA and the requests, the remainder is the sub-counter. -/
theorem timerAdvance_eq (t : Timer) (ifl : BitVec 5) (c : Nat) : timerAdvance t ifl c =
    ({ (timaSteps ((t.sub + c) / t.period) t ifl).1 with divCounter := t.divCounter, sub := (t.sub + c) % t.period },
      (timaSteps ((t.sub + c) / t.period) t ifl).2) :=
  timaSteps_withCounters _ t ifl t.divCounter _

/-- Advancing the sub-counter neither reads nor writes the divider. -/
theorem timerAdvance_withDiv (t : Timer) (ifl : BitVec 5) (c : Nat) (d : Word) :
    timerAdvance { t with divCounter := d } ifl c =
      ({ (timerAdvance t ifl c).1 with divCounter := d }, (timerAdvance t ifl c).2) := by
  rw [timerAdvance_eq t]
  exact timaSteps_withCounters _ t ifl d _

theorem timaSteps_tac (n : Nat) (t : Timer) (ifl : BitVec 5) : (timaSteps n t ifl).1.tac = t.tac := by
  obtain ⟨x, y, e, -⟩ := timaSteps_spec n t ifl
  rw [e]

/-- Advancing the sub-counter in two parts is advancing it in one. -/
theorem timerAdvance_add (t : Timer) (ifl : BitVec 5) (a b : Nat) :
    timerAdvance t ifl (a + b) = timerAdvance (timerAdvance t ifl a).1 (timerAdvance t ifl a).2 b := by
  have hdiv : (t.sub + (a + b)) / t.period = (t.sub + a) / t.period + ((t.sub + a) % t.period + b) / t.period := by
    rw [← Nat.add_assoc]
    nth_rewrite 1 [← Nat.div_add_mod (t.sub + a) t.period]
    rw [Nat.add_assoc, Nat.mul_add_div t.period_pos]
  have hmod : (t.sub + (a + b)) % t.period = ((t.sub + a) % t.period + b) % t.period := by
    rw [← Nat.add_assoc, Nat.mod_add_mod]
  have hperiod : (timerAdvance t ifl a).1.period = t.period := by
    rw [timerAdvance_eq, Timer.period, timaSteps_tac, Timer.period]
  rw [timerAdvance_eq (timerAdvance t ifl a).1, hperiod, timerAdvance_eq t ifl a, timaSteps_withCounters,
    timerAdvance_eq t ifl (a + b), hdiv, hmod, timaSteps_add]

/-- Ticking in two parts is ticking in one (R311). -/
theorem timerTick_add (t : Timer) (ifl : BitVec 5) (a b : Nat) :
    timerTick t ifl (a + b) = timerTick (timerTick t ifl a).1 (timerTick t ifl a).2 b := by
  have hdiv : t.divCounter + BitVec.ofNat 16 (a + b) = t.divCounter + BitVec.ofNat 16 a + BitVec.ofNat 16 b := by
    rw [BitVec.ofNat_add, BitVec.add_assoc]
  have htac : (timerTick t ifl a).1.enabled = t.enabled := by
    obtain ⟨x, n, y, e, -⟩ := timerTick_spec t ifl a
    rw [e]
    rfl
  unfold timerTick at htac ⊢
  rw [htac, hdiv]
  split
  · rw [timerAdvance_withDiv t ifl (a + b), timerAdvance_withDiv t ifl a, timerAdvance_add]
    exact (timerAdvance_withDiv _ _ b _).symm
  · rfl

/-- Settles O50: a tick of N periods makes N increments, which overflow at the last of 256 - TIMA. -/
theorem timerInterruptPeriod : Obligations.TimerInterruptPeriod := by
  refine ⟨fun t ifl hon htima hsub => ?period, ⟨rfl, rfl, rfl, rfl⟩, timerTick_add⟩
  have htick : ∀ c, timerTick t ifl c =
      ({ (timaSteps (c / t.period) t ifl).1 with
          divCounter := BitVec.ofNat 16 (t.divCounter.toNat + c), sub := c % t.period },
        (timaSteps (c / t.period) t ifl).2) := fun c => by
    rw [timerTick_enabled t ifl c hon, timerAdvance_withDiv, timerAdvance_eq, hsub, Nat.zero_add]
  have hfull : timerTick t ifl ((256 - t.tma.toNat) * t.period) =
      ({ t with divCounter := BitVec.ofNat 16 (t.divCounter.toNat + (256 - t.tma.toNat) * t.period), tima := t.tma, sub := 0 },
        ifl ||| 0b00100) := by
    rw [htick, Nat.mul_div_cancel _ t.period_pos, Nat.mul_mod_left, ← htima, timaSteps_overflow, ← htima]
  refine ⟨fun c hc => ?_, ?_, ?_, ?_⟩
  · have hcount : c / t.period < 256 - t.tma.toNat := Nat.div_lt_of_lt_mul (Nat.mul_comm _ _ ▸ hc)
    rw [htick, timaSteps_below _ t ifl (by rw [htima]; omega)]
  all_goals rw [hfull]

/-! The requests the devices add to IF (R299, R305). -/

/-- The timer's requests are added to those there are, and depend on no others. -/
theorem timaSteps_requests (n : Nat) (t : Timer) (ifl : BitVec 5) :
    timaSteps n t ifl = ((timaSteps n t 0).1, ifl ||| (timaSteps n t 0).2) := by
  induction n generalizing t ifl with
  | zero => exact congrArg (Prod.mk t) BitVec.or_zero.symm
  | succ n ih =>
    have hstep : timaStep t ifl = ((timaStep t 0).1, ifl ||| (timaStep t 0).2) := by
      unfold timaStep
      by_cases hf : t.tima = 0xFF
      · rw [if_pos hf, if_pos hf]; exact congrArg (Prod.mk _) (congrArg (ifl ||| ·) BitVec.zero_or.symm)
      · rw [if_neg hf, if_neg hf]; exact congrArg (Prod.mk _) BitVec.or_zero.symm
    rw [timaSteps, hstep, timaSteps, ih, ih _ (timaStep t 0).2, BitVec.or_assoc]

theorem timerTick_requests (t : Timer) (ifl : BitVec 5) (c : Nat) :
    timerTick t ifl c = ((timerTick t 0 c).1, ifl ||| (timerTick t 0 c).2) := by
  unfold timerTick timerAdvance
  split
  · exact timaSteps_requests _ _ ifl
  · exact congrArg (Prod.mk _) BitVec.or_zero.symm

/-- The PPU's requests are added to those there are, and depend on no others. -/
theorem ppuRequests_or (p q : Ppu) (ifl : BitVec 5) : ppuRequests p q ifl = ifl ||| ppuRequests p q 0 := by
  unfold ppuRequests requestStat
  dsimp only
  repeat' split
  all_goals simp [BitVec.or_assoc]

theorem ppuDots_requests (n : Nat) (p : Ppu) (ifl : BitVec 5) :
    ppuDots n p ifl = ((ppuDots n p 0).1, ifl ||| (ppuDots n p 0).2) := by
  induction n generalizing p ifl with
  | zero => exact congrArg (Prod.mk p) BitVec.or_zero.symm
  | succ n ih =>
    rw [ppuDots, ppuDots, ih, ih _ (ppuDot p 0).2]
    show _ = (_, ifl ||| (ppuRequests p p.advanceDot 0 ||| _))
    rw [← BitVec.or_assoc, ← ppuRequests_or]
    rfl

theorem ppuTick_requests (p : Ppu) (ifl : BitVec 5) (n : Nat) :
    ppuTick p ifl n = ((ppuTick p 0 n).1, ifl ||| (ppuTick p 0 n).2) := by
  unfold ppuTick
  split
  · exact ppuDots_requests n p ifl
  · exact congrArg (Prod.mk p) BitVec.or_zero.symm

/-- A request bit set on a condition. -/
theorem getLsbD_twoPow_if {w j : Nat} (b : Bool) (hj : j < w) (k : Nat) :
    (if b then BitVec.twoPow w j else 0).getLsbD k = true ↔ k = j ∧ b = true := by
  cases b with
  | false => simp
  | true => simp [BitVec.getLsbD_twoPow, hj, eq_comm]

/-- What the platform's own request list adds in a tick (R305): the serial bit and the joypad bit of its head. -/
theorem applyRequests_getLsbD (rs : List PlatformRequest) (ifl : BitVec 5) (k : Nat) :
    (applyRequests rs ifl).getLsbD k = true ↔ ifl.getLsbD k = true ∨
      (k = 3 ∧ ∃ r : PlatformRequest, rs.head? = some r ∧ r.serial = true) ∨
      (k = 4 ∧ ∃ r : PlatformRequest, rs.head? = some r ∧ r.joypad = true) := by
  cases rs with
  | nil => simp [applyRequests]
  | cons r rest =>
    have hserial : (if r.serial then 0b01000 else 0 : BitVec 5).getLsbD k = true ↔ k = 3 ∧ r.serial = true :=
      getLsbD_twoPow_if (w := 5) (j := 3) r.serial (by decide) k
    have hjoypad : (if r.joypad then 0b10000 else 0 : BitVec 5).getLsbD k = true ↔ k = 4 ∧ r.joypad = true :=
      getLsbD_twoPow_if (w := 5) (j := 4) r.joypad (by decide) k
    rw [applyRequests, BitVec.getLsbD_or, BitVec.getLsbD_or, Bool.or_eq_true, Bool.or_eq_true, hserial, hjoypad, or_assoc]
    simp

/-- Settles O44: the devices and the platform add their own requests, each as if there were none before. -/
theorem devicesOnlySetRequests : Obligations.DevicesOnlySetRequests := by
  refine ⟨fun s c => ⟨fun k hk => applyRequests_keeps _ _ k (deviceTick_keeps s c k hk), rfl, rfl, rfl, rfl, rfl, rfl, rfl, rfl,
    rfl, rfl⟩, fun s c hspec => ?_⟩
  obtain ⟨htimer, hppu, hapu, -⟩ := platformTick_devices s c hspec
  have hifl : (platformTick s c).intr.ifl =
      applyRequests s.requests (s.intr.ifl ||| (timerTick s.timer 0 c).2 ||| (ppuTick s.ppu 0 (4 * c)).2) := by
    show applyRequests s.requests (deviceTick s c).2 = _
    rw [deviceTick_spec s c hspec, specTick, ppuTick_requests, timerTick_requests]
  refine ⟨?_, ?_, hapu, rfl, fun k => ?_⟩
  · rw [htimer, timerTick_requests]
  · rw [hppu, ppuTick_requests]
  · rw [hifl, applyRequests_getLsbD, BitVec.getLsbD_or, BitVec.getLsbD_or, Bool.or_eq_true, Bool.or_eq_true, or_assoc, or_assoc]

/-! MBC1 (R360; spec/20_memory.md R56). -/

theorem mbc1BankLow_toNat (v : Byte) : (mbc1BankLow v).toNat = if v.toNat % 32 = 0 then 1 else v.toNat % 32 := by
  have hlow : (v.extractLsb' 0 5).toNat = v.toNat % 32 := BitVec.extractLsb'_toNat ..
  have hzero : v.extractLsb' 0 5 = 0 ↔ v.toNat % 32 = 0 := by rw [← BitVec.toNat_inj, hlow]; rfl
  unfold mbc1BankLow
  simp only [hzero]
  split
  · rfl
  · exact hlow

/-- The bank after a write to 0x2000-0x3FFF: the upper two bits as they were (log 22), the low five written, 0 as 1. -/
theorem mbc1Write_romBank (m : Mbc) (a : Word) (v : Byte) (h1 : 0x2000 ≤ a.toNat) (h2 : a.toNat < 0x4000) :
    (mbc1Write m a v).romBank.toNat =
      32 * (m.romBank.toNat / 32) + (if v.toNat % 32 = 0 then 1 else v.toNat % 32) := by
  have hbank : (mbc1Write m a v).romBank = m.romBank.extractLsb' 5 2 ++ mbc1BankLow v := by
    rw [mbc1Write, if_neg (Nat.not_lt.mpr h1), if_pos h2]
  have hhigh : (m.romBank.extractLsb' 5 2).toNat = m.romBank.toNat / 32 := by
    rw [BitVec.extractLsb'_toNat, Nat.shiftRight_eq_div_pow]
    omega
  rw [hbank, BitVec.toNat_append, ← Nat.shiftLeft_add_eq_or_of_lt (mbc1BankLow v).isLt, hhigh, mbc1BankLow_toNat,
    Nat.shiftLeft_eq, Nat.mul_comm]

theorem mbc1Write_ramEnabled (m : Mbc) (a : Word) (v : Byte) (h : a.toNat < 0x2000) :
    (mbc1Write m a v).ramEnabled = true ↔ v.toNat % 16 = 0xA := by
  have hlow : (v.extractLsb' 0 4).toNat = v.toNat % 16 := BitVec.extractLsb'_toNat ..
  rw [mbc1Write, if_pos h, decide_eq_true_iff, ← BitVec.toNat_inj, hlow]
  rfl

/-- No command to the MBC is read in the fixed window (R360). -/
theorem busRead_busWrite_romFixed (s : State) (a b : Word) (v : Byte) (hb : s.params.bus = .spec) (ha : a.toNat < 0x8000)
    (hfixed : b.toNat < 0x4000) : busRead (busWrite s a v) b = busRead s b := by
  have hregion : regionOf b = .romFixed := (regionOf_romFixed b).mpr ⟨Nat.zero_le _, hfixed⟩
  rw [busWrite_romAddress s a v hb ha, busRead_spec s b hb, busRead_spec { s with mbc := mbcWrite s.params s.mbc a v } b hb]
  exact mapRead_mbc s _ b (by rw [hregion]; decide) (by rw [hregion]; decide)

/-- Settles O48: a write to ROM's addresses is MBC1's command, and the switched window reads by the bank it leaves. -/
theorem bankSelectIsModulo : Obligations.BankSelectIsModulo := by
  intro s a b v hb hmbc
  have hwrite : ∀ h : a.toNat < 0x8000, busWrite s a v = { s with mbc := mbc1Write s.mbc a v } := fun h => by
    rw [busWrite_romAddress s a v hb h, mbcWrite, hmbc]
  refine ⟨fun h1 h2 h3 h4 => ?_, fun h => ?_, busRead_busWrite_romFixed s a b v hb⟩
  · have hread : busRead { s with mbc := mbc1Write s.mbc a v } b = s.rom.read (romOffset s.params (mbc1Write s.mbc a v) b) :=
      busRead_romBanked { s with mbc := mbc1Write s.mbc a v } b hb ((regionOf_romBanked b).mpr ⟨h3, h4⟩)
    have hbank := mbc1Write_romBank s.mbc a v h1 h2
    rw [hwrite (by omega), hread]
    exact congrArg (fun k => s.rom.read (k % s.params.romBanks * 0x4000 + (b.toNat - 0x4000))) hbank
  · rw [hwrite (by omega)]
    exact mbc1Write_ramEnabled s.mbc a v h

/-! The PPU's scan (R342, R343): the position of a dot in the frame of 154 lines of 456 dots. -/

/-- The dots from the start of the frame. -/
def Ppu.position (p : Ppu) : Nat := 456 * p.ly.toNat + p.dot

/-- LY and the dot counter are in range (R342). -/
def Ppu.InFrame (p : Ppu) : Prop := p.ly.toNat < 154 ∧ p.dot < 456

/-- The line and the dot one dot later (R342): within a line, or at the start of the next one. -/
theorem advanceDot_cases (p : Ppu) (h : p.InFrame) :
    (p.advanceDot.ly = p.ly ∧ p.advanceDot.dot = p.dot + 1 ∧ p.dot + 1 < 456) ∨
    (p.advanceDot.ly.toNat = (p.ly.toNat + 1) % 154 ∧ p.advanceDot.dot = 0 ∧ p.dot + 1 = 456) := by
  obtain ⟨hly, hdot⟩ := h
  unfold Ppu.advanceDot
  split
  · next he =>
    refine .inr ⟨?_, rfl, he⟩
    show (BitVec.ofNat 8 ((p.ly.toNat + 1) % 154)).toNat = (p.ly.toNat + 1) % 154
    rw [BitVec.toNat_ofNat]
    omega
  · exact .inl ⟨rfl, rfl, by omega⟩

theorem advanceDot_inFrame (p : Ppu) (h : p.InFrame) : p.advanceDot.InFrame := by
  have hly := h.1
  unfold Ppu.InFrame
  rcases advanceDot_cases p h with ⟨hy, hd, hlt⟩ | ⟨hy, hd, -⟩ <;> rw [hy, hd] <;> omega

/-- A dot moves the position by one, round the frame. -/
theorem advanceDot_position (p : Ppu) (h : p.InFrame) : p.advanceDot.position = (p.position + 1) % 70224 := by
  have hly := h.1
  unfold Ppu.position
  rcases advanceDot_cases p h with ⟨hy, hd, hlt⟩ | ⟨hy, hd, hlt⟩ <;> rw [hy, hd] <;> omega

/-- LY becomes 144 just when the position comes to line 144, dot 0 (R343). -/
theorem advanceDot_vblank_iff (p : Ppu) (h : p.InFrame) :
    (p.advanceDot.ly ≠ p.ly ∧ p.advanceDot.ly = 144) ↔ (p.position + 1) % 70224 = 456 * 144 := by
  have hly := h.1
  simp only [ne_eq, ← BitVec.toNat_inj]
  show _ ∧ _ = 144 ↔ _
  unfold Ppu.position
  rcases advanceDot_cases p h with ⟨hy, hd, hlt⟩ | ⟨hy, hd, hlt⟩ <;> rw [hy] <;> omega

/-- The VBlank request of a move: LY becomes 144 (R343); the STAT requests set another bit. -/
theorem ppuRequests_vblank (p q : Ppu) (ifl : BitVec 5) :
    (ppuRequests p q ifl).getLsbD 0 = true ↔ ifl.getLsbD 0 = true ∨ (q.ly ≠ p.ly ∧ q.ly = 144) := by
  have hstat : ∀ (b : Bool) (x : BitVec 5), (requestStat b x).getLsbD 0 = x.getLsbD 0 := by decide
  unfold ppuRequests
  dsimp only
  rw [hstat, hstat]
  split
  · next h => exact ⟨fun _ => .inr h, fun _ => by simp⟩
  · next h => exact (or_iff_left h).symm

/-- The scan over `n` dots: the position, and VBlank requested just when some dot brought it to line 144, dot 0. -/
theorem ppuDots_scan (n : Nat) (p : Ppu) (ifl : BitVec 5) (h : p.InFrame) :
    (ppuDots n p ifl).1.InFrame ∧ (ppuDots n p ifl).1.position = (p.position + n) % 70224 ∧
    ((ppuDots n p ifl).2.getLsbD 0 = true ↔
      ifl.getLsbD 0 = true ∨ ∃ k : Nat, 1 ≤ k ∧ k ≤ n ∧ (p.position + k) % 70224 = 456 * 144) := by
  induction n generalizing p ifl with
  | zero =>
    refine ⟨h, ?_, ?_⟩
    · obtain ⟨hly, hdot⟩ := h
      show p.position = _
      unfold Ppu.position
      omega
    · refine ⟨.inl, fun hr => hr.resolve_right ?_⟩
      rintro ⟨k, h1, h0, -⟩
      omega
  | succ n ih =>
    obtain ⟨hframe, hposition, hvblank⟩ := ih p.advanceDot (ppuRequests p p.advanceDot ifl) (advanceDot_inFrame p h)
    rw [advanceDot_position p h] at hposition hvblank
    simp only [Nat.mod_add_mod, Nat.add_assoc, Nat.add_comm 1] at hposition hvblank
    refine ⟨hframe, hposition, hvblank.trans ?_⟩
    rw [ppuRequests_vblank, advanceDot_vblank_iff p h, or_assoc]
    refine or_congr_right ⟨?_, ?_⟩
    · rintro (h1 | ⟨k, h1, hk, hp⟩)
      · exact ⟨1, Nat.le_refl 1, Nat.le_add_left 1 n, h1⟩
      · exact ⟨k + 1, Nat.le_add_left 1 k, Nat.add_le_add_right hk 1, hp⟩
    · rintro ⟨k, h1, hk, hp⟩
      obtain ⟨j, rfl⟩ := Nat.exists_eq_add_of_le' h1
      rcases Nat.eq_zero_or_pos j with rfl | hj
      · exact .inl hp
      · exact .inr ⟨j, hj, Nat.le_of_succ_le_succ hk, hp⟩

theorem ppuTick_off (p : Ppu) (ifl : BitVec 5) (d : Nat) (h : p.on = false) : ppuTick p ifl d = (p, ifl) := by
  rw [ppuTick, h]
  rfl

/-- The mode's code while the LCD is on, by the line and the dot (R342). -/
theorem mode_code_on (p : Ppu) (h : p.on = true) : p.mode.code =
    if 144 ≤ p.ly.toNat then 1 else if p.dot < 80 then 2 else if p.dot < 252 then 3 else 0 := by
  rw [Ppu.mode, h, if_neg Bool.true_eq_false.mp]
  split_ifs <;> rfl

/-- Settles O51: the scan by `ppuDots_scan`, dot by dot. -/
theorem ppuScansLines : Obligations.PpuScansLines := by
  refine ⟨fun p ifl d hon hly hdot => ?_, ppuTick_off, mode_code_on⟩
  obtain ⟨⟨-, hdot'⟩, hposition, hvblank⟩ := ppuDots_scan d p ifl ⟨hly, hdot⟩
  have htick : ppuTick p ifl d = ppuDots d p ifl := if_pos hon
  rw [htick]
  exact ⟨hposition, hdot', hvblank⟩

/-! STAT and LCDC (R344 to R346). -/

theorem requestStat_getLsbD_one (b : Bool) (ifl : BitVec 5) :
    (requestStat b ifl).getLsbD 1 = true ↔ ifl.getLsbD 1 = true ∨ b = true := by
  revert b ifl
  decide

/-- The sources of STAT by mode (R345). -/
theorem modeSource_iff (p : Ppu) (m : PpuMode) : p.modeSource m = true ↔
    (m = .hblank ∧ p.statSel.getLsbD 0 = true) ∨ (m = .vblank ∧ p.statSel.getLsbD 1 = true) ∨
      (m = .oamSearch ∧ p.statSel.getLsbD 2 = true) := by
  cases m <;> simp [Ppu.modeSource]

/-- The STAT request of a move: a selected mode entered, or LY become LYC with that source selected (R345). -/
theorem ppuRequests_stat (p q : Ppu) (ifl : BitVec 5) :
    (ppuRequests p q ifl).getLsbD 1 = true ↔ ifl.getLsbD 1 = true ∨ (q.mode ≠ p.mode ∧ q.modeSource q.mode = true) ∨
      (q.ly ≠ p.ly ∧ q.ly = q.lyc ∧ q.statSel.getLsbD 3 = true) := by
  have hvblank : (if q.ly ≠ p.ly ∧ q.ly = 144 then ifl ||| 0b00001 else ifl).getLsbD 1 = ifl.getLsbD 1 := by
    split <;> simp
  unfold ppuRequests
  dsimp only
  rw [requestStat_getLsbD_one, requestStat_getLsbD_one, hvblank, decide_eq_true_iff, decide_eq_true_iff, or_assoc,
    or_comm (a := _ ∧ _ ∧ _)]

theorem advanceDot_lyc (p : Ppu) : p.advanceDot.lyc = p.lyc := by
  unfold Ppu.advanceDot; split <;> rfl

theorem advanceDot_statSel (p : Ppu) : p.advanceDot.statSel = p.statSel := by
  unfold Ppu.advanceDot; split <;> rfl

/-- What a dot requests of STAT, by the source selection as it was (R345). -/
theorem ppuDot_stat (p : Ppu) (ifl : BitVec 5) : (ppuDot p ifl).2.getLsbD 1 = true ↔ ifl.getLsbD 1 = true ∨
    (p.advanceDot.mode ≠ p.mode ∧ ((p.advanceDot.mode = .hblank ∧ p.statSel.getLsbD 0 = true) ∨
      (p.advanceDot.mode = .vblank ∧ p.statSel.getLsbD 1 = true) ∨
      (p.advanceDot.mode = .oamSearch ∧ p.statSel.getLsbD 2 = true))) ∨
    (p.advanceDot.ly ≠ p.ly ∧ p.advanceDot.ly = p.lyc ∧ p.statSel.getLsbD 3 = true) := by
  have h := ppuRequests_stat p p.advanceDot ifl
  rw [modeSource_iff, advanceDot_lyc, advanceDot_statSel] at h
  exact h

/-- The fields of a STAT read (R341, R344). -/
theorem readStat_fields (p : Ppu) : p.readStat.getLsbD 2 = decide (p.ly = p.lyc) ∧
    p.readStat.extractLsb' 0 2 = p.mode.code ∧ p.readStat.extractLsb' 3 4 = p.statSel := by
  have hfields : ∀ (sel : BitVec 4) (eq : BitVec 1) (code : BitVec 2), let stat : Byte := 1#1 ++ sel ++ eq ++ code
      stat.getLsbD 2 = eq.getLsbD 0 ∧ stat.extractLsb' 0 2 = code ∧ stat.extractLsb' 3 4 = sel := by decide
  obtain ⟨heq, hcode, hsel⟩ := hfields p.statSel (if p.ly = p.lyc then 1#1 else 0#1) p.mode.code
  refine ⟨heq.trans ?_, hcode, hsel⟩
  split
  · next h => exact (decide_eq_true h).symm
  · next h => exact (decide_eq_false h).symm

/-- A write that switches LCDC[7] stands at line 0, dot 0 (R346). -/
theorem writeLcdc_switch (p : Ppu) (v : Byte) (h : v.getLsbD 7 ≠ p.on) :
    p.writeLcdc v = { p with lcdc := v, ly := 0, dot := 0 } := by
  refine if_neg fun hboth => h ?_
  rw [Bool.and_eq_true] at hboth
  rw [hboth.1, hboth.2]

/-- The mode at line 0, dot 0: OAM search if the LCD is on (R342, R346). -/
theorem mode_frame_start (p : Ppu) (hly : p.ly = 0) (hdot : p.dot = 0) : p.mode = if p.on then .oamSearch else .hblank := by
  unfold Ppu.mode
  rw [hly, hdot]
  cases p.on <;> rfl

/-- A write that leaves LCDC[7] as it is only stores the byte, given that an off LCD stands at line 0, dot 0 (R346). -/
theorem writeLcdc_keep (p : Ppu) (v : Byte) (h : v.getLsbD 7 = p.on) (hoff : p.on = false → p.ly = 0 ∧ p.dot = 0) :
    p.writeLcdc v = { p with lcdc := v } := by
  unfold Ppu.writeLcdc
  rw [h, Bool.and_self]
  split
  · rfl
  · next hon =>
    obtain ⟨hly, hdot⟩ := hoff (Bool.eq_false_iff.mpr hon)
    rw [← hly, ← hdot]

theorem busWrite_lcdc (s : State) (v : Byte) (hb : s.params.bus = .spec) :
    busWrite s 0xFF40 v = { s with ppu := s.ppu.writeLcdc v } := by
  rw [busWrite_io s 0xFF40 v hb (by decide)]
  rfl

/-- Settles O52: a dot by `ppuDot_stat`, the registers by their reads and writes on the spec's BUS. -/
theorem statAndLcdSwitch : Obligations.StatAndLcdSwitch := by
  refine ⟨ppuDot_stat, fun s hb => ?_, fun s v hb h => ?_, fun s v hb h hoff => ?_, fun s v hb => ?_⟩
  · rw [busRead_io s 0xFF41 hb (by decide)]
    exact readStat_fields s.ppu
  · rw [busWrite_lcdc s v hb, writeLcdc_switch s.ppu v h]
    exact ⟨rfl, mode_frame_start _ rfl rfl⟩
  · rw [busWrite_lcdc s v hb, writeLcdc_keep s.ppu v h hoff]
  · rw [busWrite_io s 0xFF45 v hb (by decide), busWrite_io s 0xFF41 v hb (by decide), busWrite_io s 0xFF44 v hb (by decide)]
    exact ⟨rfl, rfl, rfl⟩

/-! Rendering (R347, R350, R351). -/

theorem tilePixel_toNat (lo hi : Byte) (i : Nat) :
    (tilePixel lo hi i).toNat = 2 * (hi.getLsbD (7 - i)).toNat + (lo.getLsbD (7 - i)).toNat := by
  unfold tilePixel
  cases hi.getLsbD (7 - i) <;> cases lo.getLsbD (7 - i) <;> rfl

theorem paletteShade_toNat (pal : Byte) (idx : BitVec 2) : (paletteShade pal idx).toNat = pal.toNat / 4 ^ idx.toNat % 4 := by
  rw [paletteShade, BitVec.extractLsb'_toNat, BitVec.toNat_ushiftRight, Nat.shiftRight_zero, Nat.shiftRight_eq_div_pow,
    Nat.pow_mul]

theorem coversLine_iff (p : Ppu) (y : Nat) (sp : Sprite) : coversLine p y sp = true ↔
    sp.y.toNat ≤ y + 16 ∧ y + 16 < sp.y.toNat + (if p.lcdc.getLsbD 2 then 16 else 8) := by
  rw [coversLine, Bool.and_eq_true, decide_eq_true_iff, decide_eq_true_iff]
  rfl

theorem coversColumn_iff (x : Nat) (sp : Sprite) : coversColumn x sp = true ↔ sp.x.toNat ≤ x + 8 ∧ x < sp.x.toNat := by
  rw [coversColumn, Bool.and_eq_true, decide_eq_true_iff, decide_eq_true_iff, Nat.add_lt_add_iff_right]

/-- The first `n` of the numbers below `m` that satisfy `p`: those with fewer than `n` such before them. -/
theorem take_filter_range (p : Nat → Bool) (n m : Nat) : ((List.range m).filter p).take n =
    (List.range m).filter fun k => p k && decide ((List.range k).countP p < n) := by
  induction m with
  | zero => exact List.take_nil
  | succ m ih =>
    rw [List.range_succ, List.filter_append, List.filter_append, List.take_append, ih, ← List.countP_eq_length_filter]
    refine congrArg _ ?_
    by_cases hp : p m = true
    · by_cases hn : (List.range m).countP p < n
      · obtain ⟨j, hj⟩ := Nat.exists_eq_succ_of_ne_zero (Nat.sub_ne_zero_of_lt hn)
        simp [hp, hn, hj]
      · simp [hp, hn, Nat.sub_eq_zero_of_le (Nat.not_lt.mp hn)]
    · simp [hp]

theorem lineSprites_off (p : Ppu) (m : Memory) (y : Nat) (h : p.lcdc.getLsbD 1 = false) : lineSprites p m y = [] := by
  rw [lineSprites, h]
  rfl

/-- The sprites of a line by their OAM numbers: those that cover it, each with fewer than 10 such before it (R350). -/
theorem lineSprites_on (p : Ppu) (m : Memory) (y : Nat) (h : p.lcdc.getLsbD 1 = true) : lineSprites p m y =
    ((List.range 40).filter fun k => coversLine p y (spriteAt m k) &&
      decide ((List.range k).countP (fun j => coversLine p y (spriteAt m j)) < 10)).map (spriteAt m) := by
  rw [lineSprites, h, if_pos rfl, List.filter_map, ← List.map_take, take_filter_range]
  rfl

theorem lineSprites_length (p : Ppu) (m : Memory) (y : Nat) : (lineSprites p m y).length ≤ 10 := by
  unfold lineSprites
  split
  · exact List.length_take_le _ _
  · exact Nat.zero_le _

theorem spriteTile_toNat (p : Ppu) (sp : Sprite) :
    (spriteTile p sp).toNat = if p.lcdc.getLsbD 2 then 2 * (sp.tile.toNat / 2) else sp.tile.toNat := by
  have hmask : ∀ t : Byte, (t &&& 0xFE).toNat = 2 * (t.toNat / 2) := by decide
  unfold spriteTile
  split
  · exact hmask sp.tile
  · rfl

theorem spriteRow_eq (p : Ppu) (y : Nat) (sp : Sprite) : spriteRow p y sp =
    if sp.attr.getLsbD 6 then (if p.lcdc.getLsbD 2 then 15 else 7) - (y + 16 - sp.y.toNat) else y + 16 - sp.y.toNat := by
  unfold spriteRow spriteHeight
  cases p.lcdc.getLsbD 2 <;> rfl

/-- The pixel of a sprite is that of its tile's row and column, flipped as its attributes say (R347, R350). -/
theorem spriteIndex_eq (p : Ppu) (m : Memory) (x y : Nat) (sp : Sprite) :
    let tile := if p.lcdc.getLsbD 2 then 2 * (sp.tile.toNat / 2) else sp.tile.toNat
    let row := if sp.attr.getLsbD 6 then (if p.lcdc.getLsbD 2 then 15 else 7) - (y + 16 - sp.y.toNat) else y + 16 - sp.y.toNat
    let column := if sp.attr.getLsbD 5 then 7 - (x + 8 - sp.x.toNat) else x + 8 - sp.x.toNat
    spriteIndex p m x y sp =
      tilePixel (m.read (0x8000 + 16 * tile + 2 * row)) (m.read (0x8000 + 16 * tile + 2 * row + 1)) column := by
  intro tile row column
  rw [spriteIndex, spriteTile_toNat, spriteRow_eq]
  rfl

/-! The sprite on top (R350). -/

/-- `sp` is the first of the sprites of smallest X in `l`: those before it have a greater X, those after it no smaller one. -/
def FirstOfSmallestX (sp : Sprite) (l : List Sprite) : Prop :=
  ∃ before after : List Sprite, l = before ++ sp :: after ∧
    (∀ q ∈ before, sp.x.toNat < q.x.toNat) ∧ (∀ q ∈ after, sp.x.toNat ≤ q.x.toNat)

namespace FirstOfSmallestX
variable {sp b c : Sprite} {l : List Sprite}

theorem head_le (h : FirstOfSmallestX sp (c :: l)) : sp.x.toNat ≤ c.x.toNat := by
  obtain ⟨before, after, hsplit, hbefore, -⟩ := h
  cases before with
  | nil => cases hsplit; exact Nat.le_refl _
  | cons d before => cases hsplit; exact Nat.le_of_lt (hbefore c List.mem_cons_self)

/-- A sprite of greater X than the next one does not change which is first. -/
theorem cons_of_lt (h : FirstOfSmallestX sp (c :: l)) (hlt : c.x.toNat < b.x.toNat) : FirstOfSmallestX sp (b :: c :: l) := by
  have hb := Nat.lt_of_le_of_lt h.head_le hlt
  obtain ⟨before, after, hsplit, hbefore, hafter⟩ := h
  exact ⟨b :: before, after, congrArg (b :: ·) hsplit, List.forall_mem_cons.mpr ⟨hb, hbefore⟩, hafter⟩

/-- Neither does a sprite of no smaller X put after the first one. -/
theorem cons_cons_of_le (h : FirstOfSmallestX sp (b :: l)) (hle : b.x.toNat ≤ c.x.toNat) :
    FirstOfSmallestX sp (b :: c :: l) := by
  obtain ⟨before, after, hsplit, hbefore, hafter⟩ := h
  cases before with
  | nil =>
    cases hsplit
    exact ⟨[], c :: l, rfl, nofun, List.forall_mem_cons.mpr ⟨hle, hafter⟩⟩
  | cons d before =>
    cases hsplit
    obtain ⟨hb, hrest⟩ := List.forall_mem_cons.mp hbefore
    have hc := Nat.lt_of_lt_of_le hb hle
    exact ⟨b :: c :: before, after, rfl, List.forall_mem_cons.mpr ⟨hb, List.forall_mem_cons.mpr ⟨hc, hrest⟩⟩, hafter⟩

end FirstOfSmallestX

/-- With a best sprite so far, the one on top is the first of smallest X of it and the rest. -/
theorem topSprite_some (b : Sprite) (l : List Sprite) :
    ∃ sp, topSprite (some b) l = some sp ∧ FirstOfSmallestX sp (b :: l) := by
  induction l generalizing b with
  | nil => exact ⟨b, rfl, [], [], rfl, nofun, nofun⟩
  | cons c rest ih =>
    rw [topSprite]
    by_cases hlt : c.x.toNat < b.x.toNat
    · obtain ⟨sp, htop, hfirst⟩ := ih c
      exact ⟨sp, by rw [if_pos hlt, htop], hfirst.cons_of_lt hlt⟩
    · obtain ⟨sp, htop, hfirst⟩ := ih b
      exact ⟨sp, by rw [if_neg hlt, htop], hfirst.cons_cons_of_le (Nat.not_lt.mp hlt)⟩

/-- The sprite on top of a list: none of an empty one, else the first of smallest X. -/
theorem topSprite_none_cases (l : List Sprite) :
    (l = [] ∧ topSprite none l = none) ∨ ∃ sp, topSprite none l = some sp ∧ FirstOfSmallestX sp l := by
  cases l with
  | nil => exact .inl ⟨rfl, rfl⟩
  | cons b rest => exact .inr (topSprite_some b rest)

/-- A sprite that has a pixel of its own at (x, y): it covers the column and is not transparent there (log 34). -/
theorem hasPixel_iff (p : Ppu) (m : Memory) (x y : Nat) (sp : Sprite) :
    (coversColumn x sp && spriteIndex p m x y sp != 0) = true ↔ coversColumn x sp = true ∧ spriteIndex p m x y sp ≠ 0 := by
  rw [Bool.and_eq_true, bne_iff_ne]

/-- No sprite is shown just when all that cover the column are transparent there. -/
theorem shownSprite_eq_none_iff (p : Ppu) (m : Memory) (x y : Nat) : shownSprite p m x y = none ↔
    ∀ q ∈ lineSprites p m y, coversColumn x q = true → spriteIndex p m x y q = 0 := by
  have hempty : (lineSprites p m y).filter (fun sp => coversColumn x sp && spriteIndex p m x y sp != 0) = [] ↔
      ∀ q ∈ lineSprites p m y, coversColumn x q = true → spriteIndex p m x y q = 0 := by
    simp only [List.filter_eq_nil_iff, hasPixel_iff, not_and, not_not]
  rw [← hempty, shownSprite]
  rcases topSprite_none_cases ((lineSprites p m y).filter fun sp => coversColumn x sp && spriteIndex p m x y sp != 0)
    with ⟨hnil, hnone⟩ | ⟨sp, hsome, before, after, hsplit, -⟩
  · exact iff_of_true hnone hnil
  · refine iff_of_false (by rw [hsome]; nofun) (by rw [hsplit]; simp)

/-- The sprite shown is, of those with a pixel of their own there, the first of smallest X. -/
theorem shownSprite_eq_some (p : Ppu) (m : Memory) (x y : Nat) (sp : Sprite) (h : shownSprite p m x y = some sp) :
    coversColumn x sp = true ∧ spriteIndex p m x y sp ≠ 0 ∧
    ∃ before after : List Sprite, lineSprites p m y = before ++ sp :: after ∧
      (∀ q ∈ before, coversColumn x q = true → spriteIndex p m x y q ≠ 0 → sp.x.toNat < q.x.toNat) ∧
      (∀ q ∈ after, coversColumn x q = true → spriteIndex p m x y q ≠ 0 → sp.x.toNat ≤ q.x.toNat) := by
  rw [shownSprite] at h
  rcases topSprite_none_cases ((lineSprites p m y).filter fun sp => coversColumn x sp && spriteIndex p m x y sp != 0)
    with ⟨-, hnone⟩ | ⟨top, htop, visBefore, visAfter, hsplit, hbefore, hafter⟩
  · exact nomatch hnone.symm.trans h
  · cases htop.symm.trans h
    obtain ⟨before, rest, hline, rfl, hrest⟩ := List.filter_eq_append_iff.mp hsplit
    obtain ⟨between, after, rfl, hbetween, hsp, rfl⟩ := List.filter_eq_cons_iff.mp hrest
    obtain ⟨hcovers, hpixel⟩ := (hasPixel_iff p m x y sp).mp hsp
    refine ⟨hcovers, hpixel, before ++ between, after, by rw [hline, List.append_assoc], fun q hq hc ho => ?_,
      fun q hq hc ho => hafter q (List.mem_filter.mpr ⟨hq, (hasPixel_iff p m x y q).mpr ⟨hc, ho⟩⟩)⟩
    rcases List.mem_append.mp hq with hq | hq
    · exact hbefore q (List.mem_filter.mpr ⟨hq, (hasPixel_iff p m x y q).mpr ⟨hc, ho⟩⟩)
    · exact absurd ((hasPixel_iff p m x y q).mpr ⟨hc, ho⟩) (hbetween q hq)

/-- The shade where no sprite is shown is the background's (R351). -/
theorem pixelShade_of_none (p : Ppu) (m : Memory) (x y : Nat) (h : shownSprite p m x y = none) :
    pixelShade p m x y = paletteShade p.bgp (bgIndex p m x y) := by
  rw [pixelShade, h]

/-- The shade of a sprite shown, unless its priority bit puts it behind the background (R350). -/
theorem pixelShade_of_some (p : Ppu) (m : Memory) (x y : Nat) (sp : Sprite) (h : shownSprite p m x y = some sp) :
    pixelShade p m x y =
      if sp.attr.getLsbD 7 = true ∧ bgIndex p m x y ≠ 0 then paletteShade p.bgp (bgIndex p m x y)
      else paletteShade (if sp.attr.getLsbD 4 then p.obp1 else p.obp0) (spriteIndex p m x y sp) := by
  rw [pixelShade, h]
  simp only [Bool.and_eq_true, bne_iff_ne]
  rfl

/-- Settles O53, clause by clause. -/
theorem tilesAndSprites : Obligations.TilesAndSprites := by
  exact ⟨fun lo hi i _ => tilePixel_toNat lo hi i, paletteShade_toNat, coversLine_iff, coversColumn_iff,
    fun p m y => ⟨lineSprites_off p m y, lineSprites_on p m y, lineSprites_length p m y⟩,
    fun p m x y sp _ _ => spriteIndex_eq p m x y sp, shownSprite_eq_none_iff, shownSprite_eq_some,
    fun p m x y => ⟨pixelShade_of_none p m x y, pixelShade_of_some p m x y⟩⟩

/-! The sweep and the length counter (R354, R356). -/

/-- The shift field of NR10. -/
theorem nr10_shift_toNat (nr10 : Byte) : (nr10.extractLsb' 0 3).toNat = nr10.toNat % 8 := BitVec.extractLsb'_toNat ..

theorem nr10_shift_eq_zero_iff (nr10 : Byte) : nr10.extractLsb' 0 3 = 0 ↔ nr10.toNat % 8 = 0 := by
  rw [← BitVec.toNat_inj, nr10_shift_toNat]
  rfl

/-- The new frequency by the direction bit (R354). -/
theorem sweepNewFreq_eq (nr10 : Byte) (f : BitVec 11) : sweepNewFreq nr10 f =
    if nr10.getLsbD 3 then f.toNat - f.toNat / 2 ^ (nr10.toNat % 8) else f.toNat + f.toNat / 2 ^ (nr10.toNat % 8) := by
  rw [sweepNewFreq, nr10_shift_toNat, Nat.shiftRight_eq_div_pow]

/-- The frequency register reads back what was written to it (log 18). -/
theorem freq_setFreq (c : Channel) (f : BitVec 11) : (c.setFreq f).freq = f := by
  have hhigh : ∀ (nr4 : Byte) (h : BitVec 3), (nr4.extractLsb' 3 5 ++ h).extractLsb' 0 3 = h := by decide
  have hjoin : f.extractLsb' 8 3 ++ f.extractLsb' 0 8 = f :=
    (BitVec.extractLsb'_append_extractLsb'_eq_extractLsb' (len₂ := 3) (rfl : 8 = 0 + 8)).trans BitVec.extractLsb'_eq_self
  calc (c.setFreq f).freq = (c.nr4.extractLsb' 3 5 ++ f.extractLsb' 8 3).extractLsb' 0 3 ++ f.extractLsb' 0 8 := rfl
    _ = f := by rw [hhigh, hjoin]

/-- Beyond 11 bits the channel is disabled and nothing else changed (R354). -/
theorem sweepChannel_overflow (nr10 : Byte) (c : Channel) (h : 0x7FF < sweepNewFreq nr10 c.freq) :
    sweepChannel nr10 c = { c with enabled := false } := if_pos h

/-- Within 11 bits the new frequency is stored, if the shift is not 0 (R354). -/
theorem sweepChannel_within (nr10 : Byte) (c : Channel) (h : sweepNewFreq nr10 c.freq ≤ 0x7FF) :
    (sweepChannel nr10 c).enabled = c.enabled ∧
      (sweepChannel nr10 c).freq.toNat = if nr10.toNat % 8 = 0 then c.freq.toNat else sweepNewFreq nr10 c.freq := by
  rw [sweepChannel, if_neg (Nat.not_lt.mpr h)]
  by_cases hz : nr10.toNat % 8 = 0
  · rw [if_neg (not_not.mpr ((nr10_shift_eq_zero_iff nr10).mpr hz)), if_pos hz]
    exact ⟨rfl, rfl⟩
  · rw [if_pos (mt (nr10_shift_eq_zero_iff nr10).mp hz), if_neg hz, freq_setFreq, BitVec.toNat_ofNat]
    exact ⟨rfl, Nat.mod_eq_of_lt (Nat.lt_succ_of_le h)⟩

/-- A length step takes one off an enabled counter, and disables the channel when it runs from 1 to 0 (R356). -/
theorem stepLength_spec (c : Channel) :
    (stepLength c).enabled = (c.enabled && !(c.nr4.getLsbD 6 && decide (c.length = 1))) ∧
      (stepLength c).length = if c.nr4.getLsbD 6 = true then c.length - 1 else c.length := by
  unfold stepLength
  cases hen : c.nr4.getLsbD 6 with
  | false => simp
  | true =>
    by_cases hz : c.length = 0
    · simp [hz]
    · have hne : (c.length != 1) = !decide (c.length = 1) := rfl
      simp [hz, hne]

/-- Settles O54: the sum may leave the 11 bits, the difference never does. -/
theorem sweepRecomputes : Obligations.SweepRecomputes := by
  refine ⟨fun nr10 c => ⟨fun hadd hover => ?_, fun hadd hin => ?_, fun hsub => ?_⟩, stepLength_spec⟩
  · rw [sweepChannel_overflow nr10 c (by rw [sweepNewFreq_eq, hadd]; exact hover)]
    exact ⟨rfl, rfl⟩
  · have hnew : sweepNewFreq nr10 c.freq = c.freq.toNat + c.freq.toNat / 2 ^ (nr10.toNat % 8) := by
      rw [sweepNewFreq_eq, hadd]; rfl
    have h := sweepChannel_within nr10 c (by rw [hnew]; exact hin)
    rw [hnew] at h
    exact h
  · have hnew : sweepNewFreq nr10 c.freq = c.freq.toNat - c.freq.toNat / 2 ^ (nr10.toNat % 8) := by
      rw [sweepNewFreq_eq, hsub]; rfl
    have hin : sweepNewFreq nr10 c.freq ≤ 0x7FF := by
      have hlt := c.freq.isLt
      rw [hnew]
      exact (Nat.sub_le _ _).trans (Nat.le_of_lt_succ hlt)
    have h := sweepChannel_within nr10 c hin
    rw [hnew] at h
    exact h

/-! The run loop and the breakpoints (R320, R321). -/

theorem run_of_paused (n : Nat) (s : State) (h : s.ctl.running = false) : run (n + 1) s = (s, .paused) := by
  simp [run, h]

theorem onlyIdles_iff (s : State) : onlyIdles s = true ↔ s.halted = true ∧ pending s = false := by
  simp [onlyIdles]

theorem hitsBreakpoint_iff (s t : State) : hitsBreakpoint s t = true ↔
    ¬(s.halted = true ∧ pending s = false) ∧ t.pc ∈ t.ctl.breakpoints := by
  rw [hitsBreakpoint, Bool.and_eq_true, Bool.not_eq_true', List.contains_iff_mem, ← onlyIdles_iff, Bool.not_eq_true]

/-- A step that answers a next state goes on, or ends the run at a breakpoint; it starts with no fault recorded. -/
theorem run_of_next (n : Nat) (s t : State) (hrun : s.ctl.running = true) (hstep : step s = .next t) :
    run (n + 1) s = if hitsBreakpoint s t then (stopRunning t, .breakpoint) else run n t := by
  obtain ⟨hfault, -⟩ := step_fault_none s t hstep
  simp [run, hrun, hfault, hstep]

theorem run_of_stuck (n : Nat) (s : State) (hrun : s.ctl.running = true) (hstep : step s = .fault .stuck) :
    run (n + 1) s = (s, .stuck) := by
  cases hfault : s.fault with
  | some info => exact nomatch (step_of_fault s info hfault).symm.trans hstep
  | none => simp [run, hrun, hfault, hstep]

theorem mem_insertAddress (a b : Word) (l : List Word) : b ∈ insertAddress a l ↔ b = a ∨ b ∈ l := by
  induction l with
  | nil => exact List.mem_singleton.trans (by simp)
  | cons x rest ih =>
    unfold insertAddress
    split
    · exact List.mem_cons
    · split
      · next h => simp [h]
      · rw [List.mem_cons, List.mem_cons, ih, or_left_comm]

/-- The addresses of the machine are those a breakpoint can have. -/
theorem address_in_range (a : Word) : 0 ≤ (a.toNat : Int) ∧ (a.toNat : Int) ≤ 0xFFFF := by
  have h := a.isLt
  omega

theorem ofInt_toNat (a : Word) : BitVec.ofInt 16 (a.toNat : Int) = a := by
  rw [BitVec.ofInt_natCast, BitVec.ofNat_toNat, BitVec.setWidth_eq]

theorem mem_addBreakpoint (s : State) (a b : Word) :
    b ∈ (addBreakpoint s a.toNat).ctl.breakpoints ↔ b = a ∨ b ∈ s.ctl.breakpoints := by
  rw [addBreakpoint, if_pos (address_in_range a), ofInt_toNat]
  exact mem_insertAddress a b _

theorem mem_removeBreakpoint (s : State) (a b : Word) :
    b ∈ (removeBreakpoint s a.toNat).ctl.breakpoints ↔ b ≠ a ∧ b ∈ s.ctl.breakpoints := by
  rw [removeBreakpoint, if_pos (address_in_range a), ofInt_toNat]
  exact List.mem_filter.trans (by rw [bne_iff_ne, and_comm])

/-- Settles O55, branch by branch of the loop. -/
theorem runLoop : Obligations.RunLoop := by
  refine ⟨fun _ => rfl, run_of_paused, fun n s t hrun hstep => ?_,
    fun n s info hrun hfault => run_of_illegal s info n hfault hrun, fun n s hrun hfault => ?_, run_of_stuck,
    fun s a h => if_neg h, mem_addBreakpoint, mem_removeBreakpoint, fun _ => ⟨rfl, rfl, rfl, rfl⟩⟩
  · rw [run_of_next n s t hrun hstep]
    simp only [hitsBreakpoint_iff]
    rfl
  · obtain ⟨info, hinfo⟩ := Option.ne_none_iff_exists'.mp hfault
    exact run_of_fault s info n hinfo hrun

/-! The save state (R326; log 29). -/

theorem deserialize_serialize (s u : State) : deserialize (serialize s) u =
    .ok { s with ctl := u.ctl, params := u.params, requests := u.requests, freeIdx := u.freeIdx } := if_pos ⟨rfl, rfl⟩

/-- A buffer of another version or length than a serialized one is refused. -/
theorem deserialize_refused (b : SaveBuffer) (u : State)
    (h : b.version ≠ (serialize u).version ∨ b.length ≠ (serialize u).length) :
    deserialize b u = .error .wrongVersionOrLength :=
  if_neg fun hvalid => h.elim (absurd hvalid.1) (absurd hvalid.2)

/-- Settles O56: a serialized buffer has the valid version and length. -/
theorem saveStateRoundTrip : Obligations.SaveStateRoundTrip := by
  exact ⟨deserialize_serialize, deserialize_refused⟩

/-! Execution control is invisible (R304, R325; spec/10_state.md R37): every operation of a step commutes with replacing it. What
only reads the machine, or writes it without a store, does so by definition; a store, and a choice of two states, are cases. -/

/-- The machine with another execution control. -/
def State.withCtl (s : State) (c : Control) : State := { s with ctl := c }

theorem mapWrite_withCtl (s : State) (c : Control) (a : Word) (v : Byte) :
    mapWrite (s.withCtl c) a v = (mapWrite s a v).withCtl c := by
  unfold mapWrite
  cases regionOf a
  case io =>
    show ioWrite (s.withCtl c) a v = (ioWrite s a v).withCtl c
    unfold ioWrite
    cases ioRegOf a <;> rfl
  case extRam =>
    show (if extRamOn s.params s.mbc then _ else _) = State.withCtl (if extRamOn s.params s.mbc then _ else _) c
    split <;> rfl
  all_goals rfl

theorem busWrite_withCtl (s : State) (c : Control) (a : Word) (v : Byte) :
    busWrite (s.withCtl c) a v = (busWrite s a v).withCtl c := by
  cases hb : s.params.bus with
  | spec => rw [busWrite_spec _ _ _ hb, busWrite_spec (s.withCtl c) _ _ hb, mapWrite_withCtl]
  | given k =>
    rw [busWrite_given _ _ _ k hb, busWrite_given (s.withCtl c) _ _ k hb]
    unfold givenWrite
    split
    · rfl
    · split <;> rfl

theorem push16_withCtl (s : State) (c : Control) (v : Word) : push16 (s.withCtl c) v = (push16 s v).withCtl c := by
  have hstores : busWrite (busWrite (s.withCtl c) (s.sp - 1) (hiByte v)) (s.sp - 2) (loByte v) =
      (busWrite (busWrite s (s.sp - 1) (hiByte v)) (s.sp - 2) (loByte v)).withCtl c := by
    rw [busWrite_withCtl, busWrite_withCtl]
  rw [push16_eq, push16_eq]
  exact congrArg (State.setSp · (s.sp - 2)) hstores

theorem callTo_withCtl (a : Word) (s : State) (c : Control) : callTo a (s.withCtl c) = (callTo a s).withCtl c :=
  congrArg (State.setPc · a) (push16_withCtl s c s.pc)

theorem writeLoc_withCtl (s : State) (c : Control) (l : Loc8) (v : Byte) :
    (s.withCtl c).writeLoc l v = (s.writeLoc l v).withCtl c := by
  cases l with
  | reg r => rfl
  | atHl => exact busWrite_withCtl s c s.hl v

theorem whenCond_withCtl (cc : Cond) {s t t' : State} {c : Control} (h : t' = t.withCtl c) :
    whenCond cc t' (s.withCtl c) = (whenCond cc t s).withCtl c := by
  rw [h]
  show (if s.cond cc then _ else _) = State.withCtl (if s.cond cc then _ else _) c
  split <;> rfl

theorem haltStep_withCtl (s : State) (c : Control) : haltStep (s.withCtl c) = (haltStep s).withCtl c := by
  show (if s.params.haltBug ∧ s.intr.ime = false ∧ pending s = true then _ else _) = State.withCtl (haltStep s) c
  unfold haltStep
  split <;> rfl

theorem readLoc_withCtl (s : State) (c : Control) (l : Loc8) : (s.withCtl c).readLoc l = s.readLoc l := by
  cases l <;> rfl

/-- A byte of the CB page, by its field x: rotate or shift, BIT, RES, SET. -/
theorem cbStep_withCtl (o : Byte) (s : State) (c : Control) : cbStep o (s.withCtl c) = (cbStep o s).withCtl c := by
  have hx : ∀ x : BitVec 2, x = 0 ∨ x = 1 ∨ x = 2 ∨ x = 3 := by decide
  unfold cbStep
  generalize Loc8.ofCode (o.extractLsb' 0 3) = l
  rcases hx (o.extractLsb' 6 2) with h | h | h | h <;> rw [h]
  · show rotLoc _ l (s.withCtl c) = (rotLoc _ l s).withCtl c
    rw [rotLoc_eq, rotLoc_eq, readLoc_withCtl, writeLoc_withCtl]
    rfl
  · show bitTest _ l (s.withCtl c) = (bitTest _ l s).withCtl c
    rw [bitTest, bitTest, readLoc_withCtl]
    rfl
  · show bitRes _ l (s.withCtl c) = (bitRes _ l s).withCtl c
    rw [bitRes, bitRes, readLoc_withCtl, writeLoc_withCtl]
  · show bitSet _ l (s.withCtl c) = (bitSet _ l s).withCtl c
    rw [bitSet, bitSet, readLoc_withCtl, writeLoc_withCtl]

/-- An instruction's answer with another execution control in its next state. -/
def withCtlResult (c : Control) : Result → Result
  | .next t => .next (t.withCtl c)
  | .fault f => .fault f
  | .refused r => .refused r

theorem next_withCtl {s t : State} {c : Control} (h : t = s.withCtl c) : (.next t : Result) = withCtlResult c (.next s) :=
  congrArg Host.Outcome.next h

/-- NO INSTRUCTION READS OR WRITES EXECUTION CONTROL: it answers the same with another one. -/
theorem exec_withCtl (i : Instr) (s : State) (c : Control) : exec i (s.withCtl c) = withCtlResult c (exec i s) := by
  cases i
  case ldAtHlB | ldAtHlC | ldAtHlD | ldAtHlE | ldAtHlH | ldAtHlL | ldAtHlA | ldAtHlN | ldAtBcA | ldAtDeA | ldhAtNA | ldAtCA |
      ldAtNnA | res0AtHl | res1AtHl | res2AtHl | res3AtHl | res4AtHl | res5AtHl | res6AtHl | res7AtHl | set0AtHl | set1AtHl |
      set2AtHl | set3AtHl | set4AtHl | set5AtHl | set6AtHl | set7AtHl =>
    exact next_withCtl (busWrite_withCtl s c _ _)
  case ldAtHlIncA | ldAtHlDecA => exact next_withCtl (congrArg (bumpHl _) (busWrite_withCtl s c _ _))
  case ldAtNnSp nn =>
    exact next_withCtl ((congrArg (busWrite · _ _) (busWrite_withCtl s c nn _)).trans (busWrite_withCtl _ c (nn + 1) _))
  case incAtHl | decAtHl | rlcAtHl | rrcAtHl | rlAtHl | rrAtHl | slaAtHl | sraAtHl | swapAtHl | srlAtHl =>
    exact next_withCtl (congrArg (State.setF · _) (busWrite_withCtl s c _ _))
  case prefixCb o => exact next_withCtl (cbStep_withCtl o s c)
  case pushBc | pushDe | pushHl | pushAf => exact next_withCtl (push16_withCtl s c _)
  case callNn | rst00 | rst08 | rst10 | rst18 | rst20 | rst28 | rst30 | rst38 => exact next_withCtl (callTo_withCtl _ s c)
  case callNzNn nn | callZNn nn | callNcNn nn | callCNn nn =>
    exact next_withCtl (whenCond_withCtl _ (callTo_withCtl nn s c))
  case jrNzE | jrZE | jrNcE | jrCE | jpNzNn | jpZNn | jpNcNn | jpCNn | retNz | retZ | retNc | retC =>
    exact next_withCtl (whenCond_withCtl _ rfl)
  case halt => exact next_withCtl (haltStep_withCtl s c)
  all_goals rfl

/-! The same for the boundary, the tick and the step. -/

/-- Two answers of a step that differ in execution control alone: `r'` has the running flag and the breakpoints of `c`. -/
def StepsAlike (c : Control) (r r' : Result) : Prop :=
  (∀ t, r = .next t → ∃ n, r' = .next (t.withCtl { c with totalCycles := n })) ∧ ∀ f, r = .fault f → r' = .fault f

theorem StepsAlike.next {c : Control} {t t' : State} (n : Nat) (h : t' = t.withCtl { c with totalCycles := n }) :
    StepsAlike c (.next t) (.next t') :=
  ⟨fun _ ht => ⟨n, by rw [← Host.Outcome.next.inj ht, h]⟩, fun _ h => (nomatch h)⟩

theorem StepsAlike.fault (c : Control) (f : Fault) : StepsAlike c (.fault f) (.fault f) :=
  ⟨fun _ h => (nomatch h), fun _ h => h⟩

theorem deviceTick_withCtl (s : State) (c : Control) (k : Nat) : deviceTick (s.withCtl c) k = deviceTick s k := rfl

/-- PLATFORM_TICK writes the cycle count alone of execution control (R298). -/
theorem platformTick_withCtl (s : State) (c : Control) (k : Nat) : platformTick (s.withCtl c) k =
    (platformTick s k).withCtl { c with totalCycles := c.totalCycles + k } := by
  unfold platformTick
  rw [deviceTick_withCtl]
  rfl

theorem StepsAlike.tick (s : State) (c : Control) (k : Nat) :
    StepsAlike c (.next (platformTick s k)) (.next (platformTick (s.withCtl c) k)) :=
  .next _ (platformTick_withCtl s c k)

theorem StepsAlike.tickAfter (c : Control) (r : Result) (k : Nat) :
    StepsAlike c (tickAfter r k) (tickAfter (withCtlResult c r) k) := by
  cases r with
  | next t => exact .tick t c k
  | fault f => exact .fault c f
  | refused r => exact ⟨fun _ h => (nomatch h), fun _ h => (nomatch h)⟩

theorem StepsAlike.runInstr (s : State) (c : Control) : StepsAlike c (runInstr s) (runInstr (s.withCtl c)) := by
  have hrun : Machine.runInstr (s.withCtl c) = if isIllegal (opcodeAt s) then .fault (illegalAt s)
      else Machine.tickAfter (exec (instrAt s) ((afterFetch s).withCtl c)) (instrCycles (instrAt s) (afterFetch s)) := rfl
  rw [hrun, exec_withCtl, Machine.runInstr]
  split
  · exact .fault c _
  · exact .tickAfter c _ _

theorem takeInterrupt_withCtl (s : State) (c : Control) : takeInterrupt (s.withCtl c) = (takeInterrupt s).withCtl c := by
  have hpush := push16_withCtl (s.mapIntr fun i =>
    { i with ime := false, eiPending := false, ifl := clearRequest i.ifl (highest s) }) c s.pc
  exact congrArg (State.setPc · (vectorOf (highest s))) hpush

theorem endEiDelay_withCtl (s : State) (c : Control) : endEiDelay (s.withCtl c) = (endEiDelay s).withCtl c := by
  show (if s.intr.eiPending then _ else _) = State.withCtl (if s.intr.eiPending then _ else _) c
  split <;> rfl

/-- A boundary's decision with another execution control in its state. -/
def Boundary.withCtl (c : Control) : Boundary → Boundary
  | .halt f => .halt f
  | .idle s => .idle (s.withCtl c)
  | .dispatch s => .dispatch (s.withCtl c)
  | .fetch s => .fetch (s.withCtl c)

theorem interruptCheck_withCtl (s : State) (c : Control) :
    interruptCheck (s.withCtl c) = (interruptCheck s).withCtl c := by
  unfold interruptCheck
  rw [takeInterrupt_withCtl, endEiDelay_withCtl]
  show (if s.intr.ime ∧ pending s = true then _ else _) = _
  split <;> rfl

theorem haltCheck_withCtl (s : State) (c : Control) : haltCheck (s.withCtl c) = (haltCheck s).withCtl c := by
  have hawake := interruptCheck_withCtl { s with halted := false } c
  have hcheck := interruptCheck_withCtl s c
  show (if s.halted then if pending s then interruptCheck (State.withCtl { s with halted := false } c) else _
    else interruptCheck (s.withCtl c)) = _
  rw [hawake, hcheck]
  unfold haltCheck
  split
  · split <;> rfl
  · rfl

/-- The checks before the fetch decide the same, where STOP_WAKE does not tell the two machines apart. -/
theorem atBoundary_withCtl (s : State) (c : Control) (h : stopWake (s.withCtl c) = stopWake s) :
    atBoundary (s.withCtl c) = (atBoundary s).withCtl c := by
  cases hfault : s.fault with
  | some info =>
    have hhalt : ∀ t : State, t.fault = some info → atBoundary t = .halt (.illegalInstruction info) := fun t ht => by
      unfold atBoundary
      rw [ht]
    rw [hhalt s hfault, hhalt (s.withCtl c) hfault]
    rfl
  | none =>
    cases hstopped : s.stopped with
    | false =>
      rw [atBoundary_of_not_stopped s hfault hstopped, atBoundary_of_not_stopped (s.withCtl c) hfault hstopped, haltCheck_withCtl]
    | true =>
      rw [atBoundary_of_stopped s hfault hstopped, atBoundary_of_stopped (s.withCtl c) hfault hstopped, h]
      split
      · exact haltCheck_withCtl { s with stopped := false } c
      · rfl

/-- Settles O57: the boundary decides alike, and what it decides on runs alike. -/
theorem controlStateIsInvisible : Obligations.ControlStateIsInvisible := by
  intro s c hwake
  have hstep : StepsAlike c (step s) (step (s.withCtl c)) := by
    unfold step
    rw [atBoundary_withCtl s c hwake]
    cases atBoundary s with
    | halt f => exact .fault c f
    | idle t => exact .tick t c idleCycles
    | dispatch t => exact .tick t c dispatchCycles
    | fetch t => exact .runInstr t c
  exact hstep

end Sys2Proof.Machine
end
